-- ==== Sys2Proof/Word.lean ====
section
/-!
DEFINITION. The word types and their plainest arithmetic.

Quantities the manual gives as integers in a unit (currents, charges, levels, counters) are `Nat` or `Int`;
`BitVec` is kept for what travels as bits: frame bytes, event masks and the sets a setting holds.
-/

namespace Sys2Proof

/-- One byte of a frame or of the settings image. -/
abbrev Byte := BitVec 8

/-- A set of event kinds as it travels (R151): GRANT bit 0 to VEHICLE bit 9. -/
abbrev EventSet := BitVec 16

/-- `x` brought to the nearest limit of `lo..hi`. -/
def clampNat (lo hi x : Nat) : Nat := max lo (min hi x)

/-- `x` brought to the nearest limit of `lo..hi`, for signed quantities. -/
def clampInt (lo hi x : Int) : Int := max lo (min hi x)

end Sys2Proof
end

