-- ==== Sys2Proof/Syntax.lean ====
section
/-!
DEFINITION. The commands of the part: one constructor of `Instr` for each row of the operation table, with the
row's operands, and the small types the operands are made of.
-/

namespace Sys2Proof

/-- Number of a load record, 0..21 (chapter 3). -/
abbrev RecNo := Fin 22

/-- The three links (chapter 10). -/
inductive Link where
  | c | p | t
  deriving DecidableEq, Repr

/-- The two motion devices: the awning (controller A, record 20) and the step (controller S, record 21). -/
inductive Device where
  | awning | step
  deriving DecidableEq, Repr

/-- The classes that share the pool (chapter 5). -/
inductive LoadClass where
  | c0 | c1 | c2
  deriving DecidableEq, Repr

/-- The eight payload bytes of a frame (R151): kind, tag and the body bytes 2 to 7. -/
structure Frame where
  kind : Byte
  tag : Byte
  b2 : Byte
  b3 : Byte
  b4 : Byte
  b5 : Byte
  b6 : Byte
  b7 : Byte
  deriving DecidableEq, Repr

/-- Debounced inputs of one motion device: the end switches, the latch and the local button (R126). -/
structure DeviceInputs where
  inSw : Bool
  outSw : Bool
  latch : Bool
  button : Bool
  deriving DecidableEq, Repr

/-- What the measurement unit publishes at one sweep completion (R3, R96, R113, R126, R147) (levels debounced below
the commands: DEDUCED, log 12). -/
structure Sweep where
  /-- bank shunt current, 10 mA, positive into the bank -/
  shunt : Int
  /-- bank voltage, mV -/
  bankV : Nat
  /-- bank temperature, half-degrees -/
  tBank : Int
  /-- sample of the charge-input current, 10 mA -/
  chargeIn : Int
  /-- lowest bank voltage of the sweep, mV: what the bank hard comparator compares with V_hard (DEDUCED, log 12) -/
  minV : Nat
  /-- cabin temperature, half-degrees -/
  tCabin : Int
  /-- drain valve temperature, half-degrees -/
  tValve : Int
  /-- outside temperature, half-degrees -/
  tOut : Int
  /-- starter battery voltage, mV -/
  starterV : Nat
  /-- fresh-tank sender ratio, per mille -/
  sender : Nat
  /-- measured current of each record, 10 mA -/
  currents : Vector Nat 22
  ign : Bool
  engine : Bool
  shore : Bool
  /-- the entry door is open -/
  door : Bool
  /-- PRESS high: pressure held -/
  press : Bool
  flame : Bool
  htrFlt : Bool
  awn : DeviceInputs
  stp : DeviceInputs
  g25 : Bool
  g50 : Bool
  g75 : Bool
  g100 : Bool
  deriving DecidableEq, Repr

/-- The blocks that act on a sweep completion. The spec leaves their order open. -/
inductive SweepBlock where
  | account | charge | allocator | protection | climate | water | motionA | motionS | lighting
  deriving DecidableEq, Repr

/-- The commands. Each constructor is one row of the operation table; LAWS.json names the row. -/
inductive Instr where
  /-- R170: power is applied. -/
  | powerOn
  /-- R170: RST_N is driven low. -/
  | rstNAssert
  /-- R170: RST_N is released. -/
  | rstNRelease
  /-- R168: the settings load ends; `image` is what the EEPROM answered from word address 0. -/
  | settingsLoadCompletion (image : List Byte)
  /-- R168: the 300 ms run out with the EEPROM not answering. -/
  | settingsLoadTimeout
  /-- R4: a sweep completes; the blocks act on it in the order given (a block not named acts after those named). -/
  | sweepCompletion (m : Sweep) (order : List SweepBlock)
  /-- R14: the cut counter makes its 50th count. -/
  | cutCounterExpiry
  /-- R17: the recovery counter makes its 100th count. -/
  | recoveryCounterExpiry
  /-- R9: the full-detection counter makes its 1200th count. -/
  | fullDetection
  /-- R27: the alternator delay timer reaches alt_delay times 10. -/
  | altDelayExpiry
  /-- R88: the restore counter of a class reaches restore_delay. -/
  | restore (c : LoadClass)
  /-- R45: a sweep's measured current takes the trip bucket of a record above its limit. -/
  | overloadTrip (r : RecNo) (m : Nat)
  /-- R46: the output current of a switched channel meets its short-circuit comparator. -/
  | shortCircuit (r : RecNo) (m : Nat)
  /-- R48: the retry timer of a record reaches 0. -/
  | retryTimerExpiry (r : RecNo)
  /-- R48: the quiet timer of a record reaches 600. -/
  | quietTimerExpiry (r : RecNo)
  /-- R54: the present self-test slot ends; `answered` says whether the comparator answered the stimulus. -/
  | selftestSlotEnd (answered : Bool)
  /-- R98: the start timer reaches 0 without a flame. -/
  | startTimerExpiry
  /-- R101: the cool-down timer reaches 0. -/
  | coolDownTimerExpiry
  /-- R119: the dry-run timer reaches dry_limit times 10. -/
  | dryRunTimerExpiry
  /-- R130: the rest count of a device in PAUSE reaches 5. -/
  | pauseEnd (d : Device)
  /-- R131: the travel timer reaches T_full times 15. -/
  | travelTimeout (d : Device)
  /-- R132: the stall counter reaches 3. -/
  | stall (d : Device)
  /-- R137: a 1-second wind window completes with this pulse count. -/
  | windWindowCompletion (pulses : Nat)
  /-- R137: the wind count reaches 3. -/
  | windStow
  /-- R137: the wind lock timer reaches 0. -/
  | windLockTimerExpiry
  /-- R64: the 1-second timer of the register expires. -/
  | oneSecondTimerExpiry
  /-- R157: the silence timer reaches the short period. -/
  | shortSilence (l : Link)
  /-- R157: the silence timer reaches the long period. -/
  | longSilence (l : Link)
  /-- R160: 2 s without an accepted VEHICLE. -/
  | vehicleAgeExpiry
  /-- R152: a start byte and nine further bytes arrive on link P or T. -/
  | uartFrameReceived (l : Link) (f : Frame) (crc : Byte)
  /-- R152: more than 5 ms pass inside a frame. -/
  | frameGapTimeout (l : Link)
  /-- R153: a CAN frame with an extended identifier arrives on link C. -/
  | canFrameReceived (id : BitVec 29) (remote : Bool) (data : List Byte)
  /-- R153: the CAN controller delivers the oldest queued reply. -/
  | canReplySent
  /-- R155: a frame that names no other row: an unknown kind, or a known kind whose sub-code names nothing. -/
  | unknownKind (l : Link) (f : Frame)
  /-- R59 to R61: PLACE. -/
  | place (l : Link) (tag target : Byte) (level : BitVec 16) (prec hold : BitVec 4) (secs : BitVec 16)
  /-- R63: WITHDRAW. -/
  | withdraw (l : Link) (tag target : Byte)
  /-- R63: WITHDRAW_ALL. -/
  | withdrawAll (l : Link) (tag : Byte)
  /-- R129: MOTION with command DEPLOY; the device code as sent. -/
  | deploy (l : Link) (tag device : Byte)
  /-- R129: MOTION with command STOW. -/
  | stow (l : Link) (tag device : Byte)
  /-- R129: MOTION with command HALT. -/
  | halt (l : Link) (tag device : Byte)
  /-- R129: MOTION with command EXTEND_TO. -/
  | extendTo (l : Link) (tag device : Byte) (p : BitVec 16)
  /-- R146: SCENE. -/
  | scene (l : Link) (tag n : Byte) (prec hold : BitVec 4) (secs : BitVec 16)
  /-- R158: READ. -/
  | read (l : Link) (tag item index part : Byte)
  /-- R161: EVENTS; flag bit 0 sets the working mask. -/
  | events (l : Link) (tag flags : Byte) (mask : BitVec 16)
  /-- R157: KEEPALIVE. -/
  | keepalive (l : Link) (tag : Byte)
  /-- R160: VEHICLE. -/
  | vehicle (l : Link) (tag : Byte) (speed : BitVec 16)
  /-- R159: CONFIGURE with the STAGE flag. -/
  | configureStage (l : Link) (tag code index : Byte) (value : BitVec 24)
  /-- R159: CONFIGURE without the STAGE flag. -/
  | configure (l : Link) (tag code index : Byte) (value : BitVec 24)
  /-- R49: CLEAR of a load record. -/
  | clearLoadRecord (l : Link) (tag index : Byte)
  /-- R103: CLEAR of the heater. -/
  | clearHeater (l : Link) (tag : Byte)
  /-- R121: CLEAR of the pump. -/
  | clearPump (l : Link) (tag : Byte)
  /-- R134: CLEAR of a motion device. -/
  | clearMotion (l : Link) (tag index : Byte)
  /-- R166: CLEAR of an incident group. -/
  | clearIncidentGroup (l : Link) (tag index : Byte)
  /-- R166: CLEAR of the capture. -/
  | clearCapture (l : Link) (tag : Byte)
  /-- R72: RESET_GROUP DEMANDS. -/
  | resetDemands (l : Link) (tag : Byte)
  /-- R51, R93: RESET_GROUP LOADS. -/
  | resetLoads (l : Link) (tag : Byte)
  /-- R111: RESET_GROUP CLIMATE. -/
  | resetClimate (l : Link) (tag : Byte)
  /-- R141: RESET_GROUP MOTION. -/
  | resetMotion (l : Link) (tag : Byte)
  /-- R162: RESET_GROUP LINKS. -/
  | resetLinks (l : Link) (tag : Byte)
  /-- R169: SAVE. -/
  | save (l : Link) (tag : Byte)
  /-- R169: a running save ends; `readBack` is the image read back, none where a write was not acknowledged. -/
  | saveCompletion (readBack : Option (List Byte))
  /-- R52: SELFTEST. -/
  | selftest (l : Link) (tag : Byte)
  /-- R11: SET_CHARGE. -/
  | setCharge (l : Link) (tag : Byte) (pm : BitVec 16)
  /-- R107: CLOSE_DRAIN. -/
  | closeDrain (l : Link) (tag : Byte)
  /-- R152: one byte arrives on link P or T. -/
  | uartByteReceived (l : Link) (b : Byte)
  /-- R165: the start-up clock advances by one second. -/
  | startUpClockTick
  deriving DecidableEq, Repr

end Sys2Proof
end

