-- ==== Sys2Proof/Decode.lean ====
section
/-!
DEFINITION. The command that a word of the operation table's bits spells. No row of the table gives bits: the commands
arrive as operations and events, and a request's own layout is its frame (R151, Machine/Operands.lean).
-/

namespace Sys2Proof

/-- No word spells a command (DESIGN CHOICE, log 9). -/
def decodeTableWord (_nbits _w : Nat) : Option Instr := none

end Sys2Proof
end

