-- ==== Sys2Proof/Config.lean ====
section
/-!
DEFINITION. The values the spec leaves without a statement. Each is an opaque constant: nothing in Lean can compute
it or prove a value of it, so a theorem holds whatever the part does there.
-/

namespace Sys2Proof.Config

/-- The number the capture item carries for a raising block, or for a block as the origin of an incident. R165
names both fields and no list numbers the blocks (log 7). The argument is the block's place in the block table. -/
opaque blockCode : Nat → BitVec 16

/-- The content of a result byte of a reply that no rule fills (R151 gives every reply five result bytes), by the
byte's place 0 to 4 (log 8). -/
opaque unfilledByte : Nat → Byte

end Sys2Proof.Config
end

