-- ==== Sys2Proof/Machine/Types.lean ====
section
/-!
DEFINITION. The value types of the blocks' state and of the settings, as the chapters' state and settings tables
list them. Enumerations keep the order of the owning chapter, which R158 and R167 number from 0.
-/

namespace Sys2Proof.Machine

/-! ### Indexed groups -/

/-- One value for each link. -/
structure PerLink (α : Type) where
  c : α
  p : α
  t : α
  deriving DecidableEq, Repr

/-- One value for each motion device. -/
structure PerDevice (α : Type) where
  awning : α
  step : α
  deriving DecidableEq, Repr

/-- One value for each class that shares the pool. -/
structure PerClass (α : Type) where
  c0 : α
  c1 : α
  c2 : α
  deriving DecidableEq, Repr

/-! ### Whole-part state -/

/-- R170. LOADING after power-on or after RST_N, RST_N held low, or RUN. -/
inductive Phase where
  | loading (afterRst : Bool)
  | resetLow
  | run
  deriving DecidableEq, Repr

/-- The event kinds, bit 0 first (R151). -/
inductive Event where
  | grant | trip | motion | climate | water | energy | demand | link | incident | vehicle
  deriving DecidableEq, Repr

/-- The incident kinds, 0 to 21 in the order of the table of 11.1. -/
inductive Incident where
  | bankCut | bankHot | coldBlock
  | channelTrip | shortCircuit | retryExhausted
  | heaterLockout | frostDrain | dryRun
  | stall | travelTimeout | latchStop | windStow | driveAway
  | shortSilence | longSilence | malformed | refusedPermission
  | selftestFail | selftestAbort | settingsLoad | resetSeen
  deriving DecidableEq, Repr

/-- The blocks of the part (block table of chapter 0); each may be the raising block of an incident. -/
inductive Block where
  | measurement | energyAccount | chargeControl | loadTable | channelProtection | demandRegister
  | standingOrders | allocator | climate | water | motion | lighting | linkSupervisor | incidentLog | settingsStore
  deriving DecidableEq, Repr

/-- Reply statuses, in code order (R151). -/
inductive Status where
  | ok | accepted | clamped | unknownKind | notPermitted | linkWatch | badTarget | badValue
  | functionOwned | registerFull | busy | interlock | latched | locked | bankCut
  deriving DecidableEq, Repr

/-! ### Settings -/

inductive Chemistry where
  | lead | lithium
  deriving DecidableEq, Repr

/-- Settings of the account (1.1); the live settings and the account's own copy have this shape. -/
structure AcctSettings where
  cNom : Nat
  chemistry : Chemistry
  eta : Nat
  vFull : Nat
  reservePm : Nat
  iMax : Nat
  deriving DecidableEq, Repr

/-- Settings of charge control (2.1). -/
structure ChargeSettings where
  solarEnable : Bool
  altEnable : Bool
  altDelay : Nat
  holdRelease : Nat
  deriving DecidableEq, Repr

inductive Zone where
  | living | sleep | cab | exterior | service
  deriving DecidableEq, Repr

inductive Policy where
  | auto | manual
  deriving DecidableEq, Repr

/-- Configurable identity fields of a load record (R35). -/
structure RecSettings where
  cls : Nat
  rated : Nat
  surge : Nat
  zone : Zone
  rest : Nat
  policy : Policy
  deriving DecidableEq, Repr

/-- Settings of the allocator (5.1). -/
structure AllocSettings where
  weights : PerClass Nat
  restoreDelay : Nat
  deriving DecidableEq, Repr

inductive Condition where
  | ignitionOn | engineRunning | vehicleMoving | shorePresent | bankReserve | bankCold | cabinDoorOpen | greyFull
  deriving DecidableEq, Repr

inductive SlotAction where
  | force | cap
  deriving DecidableEq, Repr

/-- One standing order slot (R73). -/
structure Slot where
  enabled : Bool
  condition : Condition
  target : RecNo
  action : SlotAction
  level : Nat
  deriving DecidableEq, Repr

/-- Settings of the water controller (7.1). -/
structure WaterSettings where
  freshEmpty : Nat
  freshFull : Nat
  greyInhibit : Bool
  dryLimit : Nat
  deriving DecidableEq, Repr

/-- Settings of the motion controllers (8.1). -/
structure MotionSettings where
  tFull : PerDevice Nat
  stall : PerDevice Nat
  motionMin : Nat
  stowOnIgn : Bool
  windFactor : Nat
  windLimit : Nat
  deriving DecidableEq, Repr

/-- One pair of a scene (R145). -/
structure ScenePair where
  channel : Fin 8
  level : Nat
  deriving DecidableEq, Repr

/-- Settings of the lighting controller (chapter 9). Bit n of `courtesySet` is channel n. -/
structure LightSettings where
  fade : Vector Nat 8
  courtesySet : BitVec 8
  courtesyLevel : Nat
  courtesyTime : Nat
  stepLight : Fin 8
  scenes : Vector (List ScenePair) 8
  deriving DecidableEq, Repr

/-- Configured standing of a link (10.1). -/
inductive Standing where
  | off | watch | act
  deriving DecidableEq, Repr

inductive SilenceMode where
  | auto | keepalive
  deriving DecidableEq, Repr

/-- Settings of one link (10.1). Bit k of `membership` is zone k, bit k of `echo` origin k. -/
structure LinkSettings where
  standing : Standing
  membership : BitVec 5
  ceiling : Nat
  configRight : Bool
  silenceMode : SilenceMode
  shortN : Nat
  longN : Nat
  eventMask : EventSet
  echo : BitVec 5
  deriving DecidableEq, Repr

inductive Severity where
  | notice | severe
  deriving DecidableEq, Repr

/-- Every live setting (R167). `node` is link C's; bit k of `faultMask` is incident kind k. -/
structure Settings where
  acct : AcctSettings
  charge : ChargeSettings
  recs : Vector RecSettings 22
  alloc : AllocSettings
  slots : Vector Slot 8
  water : WaterSettings
  motion : MotionSettings
  light : LightSettings
  links : PerLink LinkSettings
  node : Nat
  severity : Vector Severity 22
  faultMask : BitVec 22
  debounceButtons : Nat
  debounceOthers : Nat
  deriving DecidableEq, Repr

/-- Settings as their users last met them, where a new value acts at a later occasion only: the rated currents of the
comparators and the travel times of the positions from the next sweep completion (R36, R124), the classes from the next
allocation pass (R36), the grey inhibit from the next sweep of the water controller (R112). -/
structure InForce where
  rated : Vector Nat 22
  cls : Vector Nat 22
  tFull : PerDevice Nat
  greyInhibit : Bool
  deriving DecidableEq, Repr

/-- One setting change as CONFIGURE carries it (R159). -/
structure Change where
  code : Byte
  index : Byte
  value : BitVec 24
  deriving DecidableEq, Repr

/-! ### Energy account and charge control -/

inductive SyncState where
  | unsynced | synced | manual | drifting
  deriving DecidableEq, Repr

/-- Bank protection state (R13 to R17). -/
inductive BankState where
  | normal | reserve | cut
  deriving DecidableEq, Repr

inductive HardPath where
  | armed | lost
  deriving DecidableEq, Repr

/-- The energy account (state table of chapter 1). `loaded`: a settings load has completed since power-on (R20). -/
structure Account where
  loaded : Bool
  q : Nat
  copy : AcctSettings
  sync : SyncState
  throughput : Nat
  fullCounter : Nat
  cEff : Nat
  socPm : Nat
  effReserve : Nat
  bank : BankState
  cutCounter : Nat
  recoveryCounter : Nat
  hardPath : HardPath
  iCeiling : Nat
  deriving DecidableEq, Repr

inductive Permission where
  | allowed | coldHold | hotHold | absorbHold
  deriving DecidableEq, Repr

/-- Charge control (state table of chapter 2). -/
structure Charge where
  permission : Permission
  absorb : Bool
  shoreEn : Bool
  solarEn : Bool
  altEn : Bool
  altTimer : Nat
  warmerReq : Bool
  warmerDrop : Bool
  iIn : Nat
  deriving DecidableEq, Repr

/-! ### Load table and channel protection -/

inductive RecKind where
  | switched | dimmed | motor
  deriving DecidableEq, Repr

inductive Driver where
  | register | function | motion
  deriving DecidableEq, Repr

/-- Origins of demand entries (R56). -/
inductive Origin where
  | c | p | t | door | step
  deriving DecidableEq, Repr

/-- Who decided a wanted level or a resolved value (3.1). -/
inductive WantedBy where
  | c | p | t | door | step | rest | function | motion
  deriving DecidableEq, Repr

inductive AllocState where
  | granted | shed
  deriving DecidableEq, Repr

inductive Prot where
  | normal | tripped | retryWait | unprotected
  deriving DecidableEq, Repr

inductive TripCause where
  | overload | short
  deriving DecidableEq, Repr

/-- The fields of a load record that are not settings (3.1, 3.4, 3.5, R80). -/
structure LoadRec where
  wanted : Nat
  wantedBy : WantedBy
  ordered : Nat
  orderSlot : Option (Fin 8)
  alloc : AllocState
  granted : Nat
  prot : Prot
  bucket : Nat
  retryCount : Nat
  retryTimer : Nat
  quiet : Nat
  join : Bool
  deriving DecidableEq, Repr

inductive TestResult where
  | none | pass | fail | skipped | aborted
  deriving DecidableEq, Repr

/-- What the present self-test slot does (R53). -/
inductive SlotMode where
  | testing | skipping | aborted
  deriving DecidableEq, Repr

inductive Sequencer where
  | idle
  | running (slot : Fin 13) (mode : SlotMode)
  deriving DecidableEq, Repr

/-- The self-test (3.7). `discard`: the sweep in progress overlaps slot 12, so its hard report is discarded (R3). -/
structure SelfTest where
  seq : Sequencer
  results : Vector TestResult 13
  discard : Bool
  deriving DecidableEq, Repr

/-! ### Demand register -/

/-- How long an entry lasts; a TIMED entry carries its remaining seconds (R56). -/
inductive Hold where
  | persist
  | timed (secs : Nat)
  | tethered
  deriving DecidableEq, Repr

/-- One demand entry (R56). -/
structure Entry where
  origin : Origin
  target : Nat
  level : Nat
  prec : Nat
  hold : Hold
  deriving DecidableEq, Repr

/-! ### Allocator -/

/-- What a class would bring back next (R88). -/
inductive Candidate where
  | none
  | dim (level : Nat)
  | record (r : RecNo)
  deriving DecidableEq, Repr

structure ClassAlloc where
  demand : Nat
  grant : Nat
  dim : Nat
  cand : Candidate
  counter : Nat
  deriving DecidableEq, Repr

/-- The allocator (state table of chapter 5). -/
structure Alloc where
  pool : Nat
  hBank : Nat
  taper : Nat
  d3 : Nat
  cls : PerClass ClassAlloc
  deriving DecidableEq, Repr

/-! ### Climate and water -/

inductive HeatMode where
  | off | frost | eco | comfort
  deriving DecidableEq, Repr

inductive HeaterState where
  | off | waitBudget | start | run | coolDown | lockout
  deriving DecidableEq, Repr

inductive DrainState where
  | opened | closed
  deriving DecidableEq, Repr

inductive OpenCause where
  | powerOn | frost | cut | channel
  deriving DecidableEq, Repr

/-- The climate controller (state table of chapter 6). `heldDrive` is the retained drain drive while it governs
record 2's output (R40, R105). -/
structure Climate where
  mode : HeatMode
  modeBy : WantedBy
  setpoint : Nat
  setpointBy : WantedBy
  call : Bool
  heater : HeaterState
  failCount : Nat
  faultMark : Bool
  startTimer : Nat
  coolTimer : Nat
  drain : DrainState
  openCause : OpenCause
  heldDrive : Option Bool
  tCabin : Option Int
  tValve : Option Int
  deriving DecidableEq, Repr

inductive Band where
  | empty | low | mid | high | full
  deriving DecidableEq, Repr

inductive PumpMode where
  | off | auto
  deriving DecidableEq, Repr

inductive PumpState where
  | off | idle | running | inhibited | dryLock
  deriving DecidableEq, Repr

inductive LockCause where
  | dry | trip
  deriving DecidableEq, Repr

/-- The water controller (state table of chapter 7). `refill`: the window is to be refilled (R112, R115);
`started`: a sweep has been processed since reset (R116). -/
structure Water where
  window : List Nat
  level : Nat
  band : Band
  held : Bool
  refill : Bool
  started : Bool
  greyLevel : Nat
  greyFull : Bool
  mode : PumpMode
  modeBy : WantedBy
  drain : DrainState
  pump : PumpState
  lockCause : Option LockCause
  levelAtLock : Nat
  dryTimer : Nat
  press : Bool
  ratio : Nat
  rawLevel : Nat
  deriving DecidableEq, Repr

/-! ### Motion -/

inductive Dir where
  | outward | inward
  deriving DecidableEq, Repr

inductive FaultCause where
  | stall | timeout | sensor | latch
  deriving DecidableEq, Repr

/-- The movement that follows a PAUSE (chapter 8). -/
inductive Pending where
  | outward (target : Nat)
  | inward
  deriving DecidableEq, Repr

/-- Motion state; PAUSE carries its pending direction, FAULT its cause. -/
inductive MotionState where
  | stowed | deploying | deployed | stowing | halted
  | pause (pend : Pending)
  | fault (cause : FaultCause)
  | latched
  deriving DecidableEq, Repr

/-- Source of a motion command (R165): a link, the local button, or the controller itself. -/
inductive CmdSource where
  | link (l : Link)
  | button
  | automatic
  deriving DecidableEq, Repr

/-- A motion command (8.4). -/
inductive MotionCmd where
  | deploy | stow | halt
  | extendTo (p : Nat)
  deriving DecidableEq, Repr

/-- One motion controller (state table of chapter 8). -/
structure Motion where
  state : MotionState
  lastDir : Option Dir
  rest : Nat
  runMs : Nat
  target : Nat
  travel : Nat
  stall : Nat
  source : CmdSource
  deriving DecidableEq, Repr

/-- Lamp patterns (R139). -/
inductive Lamp where
  | off | steady | blink1 | blink4
  deriving DecidableEq, Repr

/-- The wind state of controller A (8.8). -/
structure Wind where
  pulses : Nat
  speed : Nat
  count : Nat
  lock : Bool
  timer : Nat
  deriving DecidableEq, Repr

/-- The lighting controller (state table of chapter 9). -/
structure Light where
  out : Vector Nat 8
  door : Option Bool
  dims : PerClass Nat
  deriving DecidableEq, Repr

/-! ### Links -/

/-- Live standing of a link (R156). -/
inductive LiveStanding where
  | off | watch | act | lapsed
  deriving DecidableEq, Repr

/-- A held READ snapshot (R158). -/
structure Snapshot where
  item : Byte
  index : Byte
  content : List Byte
  deriving DecidableEq, Repr

/-- A frame put on a link's line; on link C with its extended identifier (R153). -/
structure OutFrame where
  id : Option (BitVec 29)
  payload : Frame
  deriving DecidableEq, Repr

/-- State of one link (state table of chapter 10). `timer` is the elapsed time in ms, none while stopped;
`shortN` and `longN` are the periods the timer was started with (R150); `part` is the UART's partial frame, none
while the receiver hunts; `sent` is the model's own record of the frames put on the line. -/
structure LinkState where
  live : LiveStanding
  timer : Option Nat
  shortTaken : Bool
  longTaken : Bool
  shortN : Nat
  longN : Nat
  rxQueue : List Frame
  part : Option (List Byte)
  batch : List Change
  snapshot : Option Snapshot
  pending : EventSet
  mask : EventSet
  echo : BitVec 5
  sent : List OutFrame
  deriving DecidableEq, Repr

/-- The CAN controller: replies handed over and not yet delivered, and the node in force (R150, R153). -/
structure Can where
  replies : List OutFrame
  node : Nat
  deriving DecidableEq, Repr

/-- The vehicle state: the speed, none for UNKNOWN, and the age of the last VEHICLE in sweeps (R160). -/
structure Vehicle where
  speed : Option Nat
  age : Nat
  deriving DecidableEq, Repr

/-! ### Incident log and settings store -/

/-- Origin of a captured incident (R165). -/
inductive CapOrigin where
  | link (l : Link)
  | button
  | block (b : Block)
  deriving DecidableEq, Repr

/-- The first-incident capture (R165). -/
structure Capture where
  kind : Incident
  block : Block
  origin : CapOrigin
  target : Option Nat
  bytes : Option (List Byte)
  socPm : Nat
  time : Nat
  deriving DecidableEq, Repr

/-- The incident log (state table of chapter 11). -/
structure Log where
  status : Vector Bool 22
  count : Vector Nat 22
  capture : Option Capture
  clock : Nat
  faultN : Bool
  deriving DecidableEq, Repr

inductive ImageState where
  | valid | defaults
  deriving DecidableEq, Repr

/-- The settings store (R168, R169). `saving` is the copy of the settings that a running save writes. -/
structure Store where
  image : ImageState
  modified : Bool
  saving : Option Settings
  deriving DecidableEq, Repr

end Sys2Proof.Machine
end

