-- ==== Sys2Proof/Machine/Access.lean ====
section
/-!
DEFINITION. Reading and writing one member of an indexed group, the fixed lists the rules go through in order, and
the numbers of the enumerations (R151, R158, R167).
-/

namespace Sys2Proof.Machine

def PerLink.get {α : Type} (x : PerLink α) : Link → α
  | .c => x.c
  | .p => x.p
  | .t => x.t

def PerLink.set {α : Type} (x : PerLink α) (l : Link) (v : α) : PerLink α :=
  match l with
  | .c => { x with c := v }
  | .p => { x with p := v }
  | .t => { x with t := v }

def PerDevice.get {α : Type} (x : PerDevice α) : Device → α
  | .awning => x.awning
  | .step => x.step

def PerDevice.set {α : Type} (x : PerDevice α) (d : Device) (v : α) : PerDevice α :=
  match d with
  | .awning => { x with awning := v }
  | .step => { x with step := v }

def PerClass.get {α : Type} (x : PerClass α) : LoadClass → α
  | .c0 => x.c0
  | .c1 => x.c1
  | .c2 => x.c2

def PerClass.set {α : Type} (x : PerClass α) (c : LoadClass) (v : α) : PerClass α :=
  match c with
  | .c0 => { x with c0 := v }
  | .c1 => { x with c1 := v }
  | .c2 => { x with c2 := v }

/-- Member `i` of a table. -/
def tget {α : Type} {n : Nat} (v : Vector α n) (i : Fin n) : α := v[i.val]

/-- The table with member `i` replaced. -/
def tset {α : Type} {n : Nat} (v : Vector α n) (i : Fin n) (x : α) : Vector α n := v.set i.val x

/-- Records 0 to 21, in ascending number. -/
def allRecs : List RecNo := [0, 1, 2, 3, 4, 5, 6, 7, 8, 9, 10, 11, 12, 13, 14, 15, 16, 17, 18, 19, 20, 21]

/-- Records 3 to 19, the targets of standing orders (R73). -/
def orderRecs : List RecNo := [3, 4, 5, 6, 7, 8, 9, 10, 11, 12, 13, 14, 15, 16, 17, 18, 19]

/-- Records 0 to 19, the switched and dimmed records. -/
def channelRecs : List RecNo := [0, 1, 2, 3, 4, 5, 6, 7, 8, 9, 10, 11, 12, 13, 14, 15, 16, 17, 18, 19]

/-- Channels 0 to 7, slots 0 to 7 and scenes 0 to 7. -/
def all8 : List (Fin 8) := [0, 1, 2, 3, 4, 5, 6, 7]

def allLinks : List Link := [.c, .p, .t]

/-- The class of a number below 3; class 3 and any other number is none of the sharing classes. -/
def classOf : Nat → Option LoadClass
  | 0 => some .c0
  | 1 => some .c1
  | 2 => some .c2
  | _ => none

/-- The load record of dimmed channel `n` is 12 + n (chapter 9). -/
def lightRec (n : Fin 8) : RecNo := ⟨12 + n.val, by omega⟩

/-- The record of a number, where there is one. -/
def recOf (n : Nat) : Option RecNo := if h : n < 22 then some ⟨n, h⟩ else none

/-- Member of a list of eight by number, where there is one. -/
def fin8Of (n : Nat) : Option (Fin 8) := if h : n < 8 then some ⟨n, h⟩ else none

def Origin.by : Origin → WantedBy
  | .c => .c
  | .p => .p
  | .t => .t
  | .door => .door
  | .step => .step

def Dir.opposite : Dir → Dir
  | .outward => .inward
  | .inward => .outward

end Sys2Proof.Machine

namespace Sys2Proof

open Sys2Proof.Machine

def LoadClass.no : LoadClass → Nat
  | .c0 => 0
  | .c1 => 1
  | .c2 => 2

/-- The motor record of a device: AWNING 20, STEP 21. -/
def Device.motor : Device → RecNo
  | .awning => 20
  | .step => 21

def Link.origin : Link → Origin
  | .c => .c
  | .p => .p
  | .t => .t

def Link.no : Link → Nat
  | .c => 0
  | .p => 1
  | .t => 2

end Sys2Proof

namespace Sys2Proof.Machine

/-! ### Numbers of the enumerations -/

def Event.no : Event → Nat
  | .grant => 0
  | .trip => 1
  | .motion => 2
  | .climate => 3
  | .water => 4
  | .energy => 5
  | .demand => 6
  | .link => 7
  | .incident => 8
  | .vehicle => 9

/-- The event set that holds one kind. -/
def Event.bit (e : Event) : EventSet := BitVec.ofNat 16 (2 ^ e.no)

def Incident.no : Incident → Fin 22
  | .bankCut => 0
  | .bankHot => 1
  | .coldBlock => 2
  | .channelTrip => 3
  | .shortCircuit => 4
  | .retryExhausted => 5
  | .heaterLockout => 6
  | .frostDrain => 7
  | .dryRun => 8
  | .stall => 9
  | .travelTimeout => 10
  | .latchStop => 11
  | .windStow => 12
  | .driveAway => 13
  | .shortSilence => 14
  | .longSilence => 15
  | .malformed => 16
  | .refusedPermission => 17
  | .selftestFail => 18
  | .selftestAbort => 19
  | .settingsLoad => 20
  | .resetSeen => 21

/-- The kinds of an incident group, as the numbers of the table of 11.1. -/
def groupKinds : Nat → Option (List (Fin 22))
  | 0 => some [0, 1, 2]
  | 1 => some [3, 4, 5]
  | 2 => some [6, 7, 8]
  | 3 => some [9, 10, 11, 12, 13]
  | 4 => some [14, 15, 16, 17]
  | 5 => some [18, 19, 20, 21]
  | _ => none

/-- Place of a block in the block table of chapter 0. -/
def Block.no : Block → Nat
  | .measurement => 0
  | .energyAccount => 1
  | .chargeControl => 2
  | .loadTable => 3
  | .channelProtection => 4
  | .demandRegister => 5
  | .standingOrders => 6
  | .allocator => 7
  | .climate => 8
  | .water => 9
  | .motion => 10
  | .lighting => 11
  | .linkSupervisor => 12
  | .incidentLog => 13
  | .settingsStore => 14

def Status.code : Status → Byte
  | .ok => 0x00
  | .accepted => 0x01
  | .clamped => 0x02
  | .unknownKind => 0x03
  | .notPermitted => 0x04
  | .linkWatch => 0x05
  | .badTarget => 0x06
  | .badValue => 0x07
  | .functionOwned => 0x08
  | .registerFull => 0x09
  | .busy => 0x0A
  | .interlock => 0x0B
  | .latched => 0x0C
  | .locked => 0x0D
  | .bankCut => 0x0E

def Chemistry.no : Chemistry → Nat
  | .lead => 0
  | .lithium => 1

def Zone.no : Zone → Nat
  | .living => 0
  | .sleep => 1
  | .cab => 2
  | .exterior => 3
  | .service => 4

def Policy.no : Policy → Nat
  | .auto => 0
  | .manual => 1

def Condition.no : Condition → Nat
  | .ignitionOn => 0
  | .engineRunning => 1
  | .vehicleMoving => 2
  | .shorePresent => 3
  | .bankReserve => 4
  | .bankCold => 5
  | .cabinDoorOpen => 6
  | .greyFull => 7

def SlotAction.no : SlotAction → Nat
  | .force => 0
  | .cap => 1

def Standing.no : Standing → Nat
  | .off => 0
  | .watch => 1
  | .act => 2

def SilenceMode.no : SilenceMode → Nat
  | .auto => 0
  | .keepalive => 1

def Severity.no : Severity → Nat
  | .notice => 0
  | .severe => 1

def Origin.no : Origin → Nat
  | .c => 0
  | .p => 1
  | .t => 2
  | .door => 3
  | .step => 4

def WantedBy.no : WantedBy → Nat
  | .c => 0
  | .p => 1
  | .t => 2
  | .door => 3
  | .step => 4
  | .rest => 5
  | .function => 6
  | .motion => 7

/-- Off, no and false are 0; on, yes and true are 1, where no chapter lists the two values in an order. -/
def flag (b : Bool) : Nat := if b then 1 else 0

/-- Two values that a state table lists with the positive one first (SET, CLEAR; on, off; true, false). -/
def listedFirst (b : Bool) : Nat := if b then 0 else 1

end Sys2Proof.Machine
end

