-- ==== Sys2Proof/Machine/Bytes.lean ====
section
/-!
DEFINITION. Byte order, the two checks of the links and of the settings image, and the frame layout's fixed parts
(R151, R152, R167).
-/

namespace Sys2Proof.Machine

/-- The number as one byte; a larger number keeps its low eight bits. -/
def byteOf (n : Nat) : Byte := BitVec.ofNat 8 n

/-- A 16-bit value, low byte first (R151). -/
def le16 (v : BitVec 16) : List Byte := [v.extractLsb' 0 8, v.extractLsb' 8 8]

/-- A 24-bit value, low byte first (R167). -/
def le24 (v : BitVec 24) : List Byte := [v.extractLsb' 0 8, v.extractLsb' 8 8, v.extractLsb' 16 8]

/-- A 32-bit value, low byte first (R151, R158). -/
def le32 (v : BitVec 32) : List Byte :=
  [v.extractLsb' 0 8, v.extractLsb' 8 8, v.extractLsb' 16 8, v.extractLsb' 24 8]

/-- The 16-bit value of two bytes, the low one given first. -/
def word16 (lo hi : Byte) : BitVec 16 := hi ++ lo

/-- The 24-bit value of three bytes, the lowest given first. -/
def word24 (b0 b1 b2 : Byte) : BitVec 24 := (b2 ++ b1 ++ b0 : BitVec (8 + 8 + 8))

/-- A signed quantity in two's complement on 16 bits. -/
def int16 (v : Int) : BitVec 16 := BitVec.ofInt 16 v

/-! ### CRC-8 of the UART frames (R152): polynomial 0x07, initial value 0x00 -/

def crc8Bit (c : Byte) : Byte := if c.msb then (c <<< 1) ^^^ 0x07 else c <<< 1

def crc8Byte (c b : Byte) : Byte :=
  let x := c ^^^ b
  crc8Bit (crc8Bit (crc8Bit (crc8Bit (crc8Bit (crc8Bit (crc8Bit (crc8Bit x)))))))

def crc8 (bs : List Byte) : Byte := bs.foldl crc8Byte 0x00

/-! ### CRC-16 of the settings image (R167): polynomial 0x1021, initial value 0xFFFF -/

def crc16Bit (c : BitVec 16) : BitVec 16 := if c.msb then (c <<< 1) ^^^ 0x1021 else c <<< 1

def crc16Byte (c : BitVec 16) (b : Byte) : BitVec 16 :=
  let x := c ^^^ (b ++ (0 : Byte) : BitVec (8 + 8))
  crc16Bit (crc16Bit (crc16Bit (crc16Bit (crc16Bit (crc16Bit (crc16Bit (crc16Bit x)))))))

def crc16 (bs : List Byte) : BitVec 16 := bs.foldl crc16Byte 0xFFFF

/-! ### Frames -/

end Sys2Proof.Machine

namespace Sys2Proof

/-- The eight payload bytes in order. -/
def Frame.bytes (f : Frame) : List Byte := [f.kind, f.tag, f.b2, f.b3, f.b4, f.b5, f.b6, f.b7]

/-- The first four payload bytes of a frame (R155, R165). -/
def Frame.first4 (f : Frame) : List Byte := [f.kind, f.tag, f.b2, f.b3]

end Sys2Proof

namespace Sys2Proof.Machine

/-- The frame of eight payload bytes. -/
def frameOf : List Byte → Option Frame
  | [k, t, b2, b3, b4, b5, b6, b7] => some ⟨k, t, b2, b3, b4, b5, b6, b7⟩
  | _ => none

/-- Identifier of the frames the part takes on link C (R153). -/
def canRequestId (node : Nat) : BitVec 29 := BitVec.ofNat 29 (0x0CF0A100 + node)

/-- Identifier of the frames the part sends on link C (R153). -/
def canReplyId (node : Nat) : BitVec 29 := BitVec.ofNat 29 (0x0CF0A200 + node)

/-- The attention frame of link C: kind 0xC0, tag 0, the masked set, the whole set, two bytes of 0 (R151). -/
def attentionFrame (pending mask : EventSet) : Frame :=
  let m := pending &&& mask
  ⟨0xC0, 0x00, m.extractLsb' 0 8, m.extractLsb' 8 8, pending.extractLsb' 0 8, pending.extractLsb' 8 8, 0, 0⟩

end Sys2Proof.Machine
end

