-- ==== Sys2Proof/Machine/Defaults.lean ====
section
/-!
DEFINITION. The default settings, from the settings tables of chapters 1 to 11.
-/

namespace Sys2Proof.Machine

def defaultEta : Chemistry → Nat
  | .lead => 230
  | .lithium => 253

def defaultVFull : Chemistry → Nat
  | .lead => 14000
  | .lithium => 13900

/-- Table of 1.1. -/
def AcctSettings.default : AcctSettings :=
  { cNom := 100, chemistry := .lead, eta := 230, vFull := 14000, reservePm := 200, iMax := 15000 }

/-- Record table of chapter 3. A field the record does not have is 0, MANUAL or the zone of the table. -/
def defaultRecs : Vector RecSettings 22 :=
  #v[⟨2, 600, 0, .service, 0, .manual⟩, ⟨2, 150, 900, .service, 0, .manual⟩, ⟨3, 25, 0, .service, 0, .manual⟩,
     ⟨2, 500, 0, .living, 0, .auto⟩, ⟨1, 400, 0, .living, 0, .auto⟩, ⟨1, 400, 0, .living, 0, .auto⟩,
     ⟨1, 400, 0, .sleep, 0, .auto⟩, ⟨1, 400, 0, .sleep, 0, .auto⟩, ⟨1, 400, 0, .cab, 0, .auto⟩,
     ⟨1, 400, 0, .exterior, 0, .auto⟩, ⟨2, 400, 0, .service, 0, .manual⟩, ⟨0, 800, 0, .exterior, 0, .auto⟩,
     ⟨1, 200, 0, .living, 0, .auto⟩, ⟨1, 200, 0, .living, 0, .auto⟩, ⟨1, 200, 0, .sleep, 0, .auto⟩,
     ⟨1, 200, 0, .sleep, 0, .auto⟩, ⟨1, 200, 0, .cab, 0, .auto⟩, ⟨1, 200, 0, .exterior, 0, .auto⟩,
     ⟨1, 200, 0, .exterior, 0, .auto⟩, ⟨1, 200, 0, .living, 0, .auto⟩, ⟨3, 1200, 0, .exterior, 0, .manual⟩,
     ⟨3, 800, 0, .exterior, 0, .manual⟩]

/-- R73. -/
def defaultSlots : Vector Slot 8 :=
  #v[⟨true, .engineRunning, 3, .force, 1000⟩, ⟨true, .bankReserve, 17, .cap, 0⟩, ⟨true, .vehicleMoving, 11, .cap, 0⟩,
     ⟨false, .ignitionOn, 3, .cap, 1000⟩, ⟨false, .ignitionOn, 3, .cap, 1000⟩, ⟨false, .ignitionOn, 3, .cap, 1000⟩,
     ⟨false, .ignitionOn, 3, .cap, 1000⟩, ⟨false, .ignitionOn, 3, .cap, 1000⟩]

/-- R145. -/
def defaultScenes : Vector (List ScenePair) 8 :=
  #v[[⟨0, 0⟩, ⟨1, 0⟩, ⟨2, 0⟩, ⟨3, 0⟩, ⟨4, 0⟩, ⟨5, 0⟩, ⟨6, 0⟩, ⟨7, 0⟩], [⟨0, 1000⟩, ⟨1, 1000⟩, ⟨7, 1000⟩],
     [⟨2, 300⟩, ⟨3, 300⟩], [], [], [], [], []]

/-- All kinds but DEMAND (10.1). -/
def defaultMask : EventSet := 0x03BF

/-- Table of 10.1. -/
def defaultLinks : PerLink LinkSettings :=
  { c := ⟨.act, 0b01100, 3, false, .auto, 2, 4, defaultMask, 0b00000⟩
    p := ⟨.act, 0b11111, 3, true, .auto, 5, 7, defaultMask, 0b00101⟩
    t := ⟨.act, 0b10011, 1, false, .keepalive, 7, 9, defaultMask, 0b00000⟩ }

/-- Table of 11.1. -/
def defaultSeverity : Vector Severity 22 :=
  #v[.severe, .severe, .notice, .severe, .severe, .severe, .severe, .notice, .severe, .severe, .severe, .severe,
     .notice, .severe, .notice, .severe, .notice, .notice, .severe, .notice, .severe, .notice]

/-- The default settings of every chapter. -/
def Settings.default : Settings :=
  { acct := AcctSettings.default
    charge := { solarEnable := true, altEnable := true, altDelay := 10, holdRelease := 900 }
    recs := defaultRecs
    alloc := { weights := { c0 := 1, c1 := 2, c2 := 4 }, restoreDelay := 30 }
    slots := defaultSlots
    water := { freshEmpty := 100, freshFull := 900, greyInhibit := true, dryLimit := 60 }
    motion :=
      { tFull := { awning := 30, step := 4 }, stall := { awning := 1800, step := 1200 }, motionMin := 11500
        stowOnIgn := false, windFactor := 24, windLimit := 40 }
    light :=
      { fade := #v[50, 50, 50, 50, 50, 50, 50, 50], courtesySet := 0b01000001, courtesyLevel := 600
        courtesyTime := 120, stepLight := 6, scenes := defaultScenes }
    links := defaultLinks
    node := 0
    severity := defaultSeverity
    faultMask := 0
    debounceButtons := 11
    debounceOthers := 4 }

/-- Every user meets these settings at once, as at a distribution of the live settings (R168). -/
def Settings.inForce (cfg : Settings) : InForce :=
  { rated := cfg.recs.map (·.rated), cls := cfg.recs.map (·.cls), tFull := cfg.motion.tFull
    greyInhibit := cfg.water.greyInhibit }

end Sys2Proof.Machine
end

