-- ==== Sys2Proof/Machine/State.lean ====
section
/-!
DEFINITION. The state of the part, whole and as plain data, the (empty) reasons to stop, and the state after reset.
-/

namespace Sys2Proof.Machine

/-- Reasons the part could stop with a fault. There are none: every error of the manual is a state, an incident or
a reply status, and the part goes on. -/
inductive Fault where
  deriving DecidableEq, Repr

/-- Reasons a command could be refused by the model. -/
inductive Refusal where
  /-- A command the model has no meaning for. No arm of `exec` answers it; safe, since the model would only stop. -/
  | notModelled (mnemonic : String)
  deriving DecidableEq, Repr

/-- The state. Each field is one block of the block table (chapter 0); `prev` is the sweep before `mu`, kept for the
edges; `pending` is the queue of commands; `handling` is the frame being handled, none between commands. -/
structure State where
  pending : List Instr
  phase : Phase
  mu : Sweep
  prev : Sweep
  acct : Account
  chg : Charge
  set : Settings
  inForce : InForce
  tab : Vector LoadRec 22
  test : SelfTest
  reg : List Entry
  alloc : Alloc
  clim : Climate
  water : Water
  mot : PerDevice Motion
  wind : Wind
  light : Light
  links : PerLink LinkState
  can : Can
  vehicle : Vehicle
  log : Log
  store : Store
  handling : Option (Link × Frame)
  deriving DecidableEq, Repr

/-! ### Values at power-on -/

/-- Inputs of a device before any sweep (log 4). -/
def idleInputs : DeviceInputs := { inSw := false, outSw := false, latch := false, button := false }

/-- The measurement unit before its first sweep (log 4). -/
def idleSweep : Sweep :=
  { shunt := 0, bankV := 0, tBank := 0, chargeIn := 0, minV := 0, tCabin := 0, tValve := 0, tOut := 0
    starterV := 0, sender := 0, currents := Vector.replicate 22 0, ign := false, engine := false, shore := false
    door := false, press := true, flame := false, htrFlt := false, awn := idleInputs
    stp := idleInputs, g25 := false, g50 := false, g75 := false, g100 := false }

/-- R20 (DEDUCED, log 5). -/
def Account.powerOn : Account :=
  { loaded := false, q := 0, copy := AcctSettings.default, sync := .unsynced, throughput := 0, fullCounter := 0
    cEff := 360000000, socPm := 0, effReserve := 300, bank := .normal, cutCounter := 0, recoveryCounter := 0
    hardPath := .armed, iCeiling := 0 }

/-- R34. -/
def Charge.reset : Charge :=
  { permission := .allowed, absorb := false, shoreEn := false, solarEn := false, altEn := false, altTimer := 0
    warmerReq := false, warmerDrop := false, iIn := 0 }

/-- R55, R80: one record, with wanted_by by its driver. -/
def LoadRec.reset (wantedBy : WantedBy) : LoadRec :=
  { wanted := 0, wantedBy := wantedBy, ordered := 0, orderSlot := none, alloc := .granted, granted := 0
    prot := .normal, bucket := 0, retryCount := 0, retryTimer := 0, quiet := 0, join := false }

/-- R55: the 22 records. -/
def resetTab : Vector LoadRec 22 :=
  let f := LoadRec.reset .function
  let r := LoadRec.reset .rest
  let m := LoadRec.reset .motion
  #v[f, f, f, r, r, r, r, r, r, r, f, r, r, r, r, r, r, r, r, r, m, m]

/-- R55. -/
def SelfTest.powerOn : SelfTest := { seq := .idle, results := Vector.replicate 13 .none, discard := false }

/-- R92: one class. -/
def ClassAlloc.reset : ClassAlloc := { demand := 0, grant := 0, dim := 1000, cand := .none, counter := 0 }

/-- R92. -/
def Alloc.reset : Alloc :=
  { pool := 0, hBank := 0, taper := 0, d3 := 0
    cls := { c0 := ClassAlloc.reset, c1 := ClassAlloc.reset, c2 := ClassAlloc.reset } }

/-- R110. -/
def Climate.powerOn : Climate :=
  { mode := .frost, modeBy := .rest, setpoint := 40, setpointBy := .rest, call := false, heater := .off
    failCount := 0, faultMark := false, startTimer := 0, coolTimer := 0, drain := .opened, openCause := .powerOn
    heldDrive := none, tCabin := none, tValve := none }

/-- R123. -/
def Water.reset : Water :=
  { window := [], level := 0, band := .empty, held := false, refill := true, started := false, greyLevel := 0
    greyFull := false, mode := .off, modeBy := .rest, drain := .opened, pump := .off, lockCause := none
    levelAtLock := 0, dryTimer := 0, press := true, ratio := 0, rawLevel := 0 }

/-- R141: the rest count is 5 after power-on and 0 after RST_N. -/
def Motion.reset (rest : Nat) : Motion :=
  { state := .stowed, lastDir := none, rest := rest, runMs := 0, target := 1000, travel := 0, stall := 0
    source := .automatic }

/-- R141. -/
def Wind.reset : Wind := { pulses := 0, speed := 0, count := 0, lock := false, timer := 0 }

/-- R149. -/
def Light.reset : Light :=
  { out := Vector.replicate 8 0, door := none, dims := { c0 := 1000, c1 := 1000, c2 := 1000 } }

/-- R162. `sent` is kept: what went out on the line stays sent. -/
def LinkState.reset (cfg : LinkSettings) (sent : List OutFrame) : LinkState :=
  { live := .act, timer := none, shortTaken := false, longTaken := false, shortN := cfg.shortN, longN := cfg.longN
    rxQueue := [], part := none, batch := [], snapshot := none, pending := 0, mask := 0, echo := 0, sent := sent }

/-- R164, R170. -/
def Log.powerOn : Log :=
  { status := Vector.replicate 22 false, count := Vector.replicate 22 0, capture := none, clock := 0
    faultN := false }

/-- The machine right after reset: power has been applied and LOADING begins (R170). -/
def State.reset : State :=
  { pending := [], phase := .loading false, mu := idleSweep, prev := idleSweep, acct := Account.powerOn
    chg := Charge.reset, set := Settings.default, inForce := Settings.default.inForce, tab := resetTab
    test := SelfTest.powerOn, reg := []
    alloc := Alloc.reset, clim := Climate.powerOn, water := Water.reset
    mot := { awning := Motion.reset 5, step := Motion.reset 5 }, wind := Wind.reset, light := Light.reset
    links :=
      { c := LinkState.reset defaultLinks.c [], p := LinkState.reset defaultLinks.p []
        t := LinkState.reset defaultLinks.t [] }
    can := { replies := [], node := 0 }, vehicle := { speed := none, age := 0 }, log := Log.powerOn
    store := { image := .defaults, modified := false, saving := none }, handling := none }

end Sys2Proof.Machine
end

