-- ==== Sys2Proof/Machine/Flags.lean ====
section
/-!
DEFINITION. Event sets and attention (R161), incidents, the capture and FAULT_N (R163 to R165): the flags every block
raises. Each operation is one update of `links` or of `log`, so that its frame is read off its text.
-/

namespace Sys2Proof.Machine

/-- The part is in RUN. -/
def State.isRun (s : State) : Bool := s.phase == .run

/-- RST_N is not held low. -/
def State.awake (s : State) : Bool := s.phase != .resetLow

/-- State of one link. -/
def State.lk (s : State) (l : Link) : LinkState := s.links.get l

/-! ### Attention -/

/-- The link's pending set and its working mask have a kind in common (R161). -/
def LinkState.condition (k : LinkState) : Bool := k.pending &&& k.mask != 0

/-- The condition as it reaches the attention output: the link not OFF and the part in RUN (R161). -/
def LinkState.attention (run : Bool) (k : LinkState) : Bool := run && k.live != .off && k.condition

/-- R161: on link C, each change of the attention from false to true sends one attention frame (DEDUCED, log 24). -/
def LinkState.announce (l : Link) (node : Nat) (was now : Bool) (k : LinkState) : LinkState :=
  { k with
    sent :=
      if l = .c ∧ was = false ∧ now = true then
        k.sent ++ [{ id := some (canReplyId node), payload := attentionFrame k.pending k.mask }]
      else k.sent }

/-- Change the state of one link, with the attention frame the change calls for. -/
def State.modLink (l : Link) (f : LinkState → LinkState) (s : State) : State :=
  let old := s.links.get l
  let new := f old
  { s with
    links := s.links.set l (new.announce l s.can.node (old.attention s.isRun) (new.attention s.isRun)) }

/-- ATTP and ATTT, and link C's own attention (R161). -/
def State.attention (s : State) (l : Link) : Bool := (s.lk l).attention s.isRun

/-! ### Events -/

/-- Enter an event kind in the pending set of one link (R161). While RST_N is low every set stays empty (R162). -/
def State.raiseOn (l : Link) (e : Event) (s : State) : State :=
  s.modLink l fun k => { k with pending := if s.awake then k.pending ||| e.bit else k.pending }

/-- Enter an event kind in the pending set of each link. -/
def State.raise (e : Event) (s : State) : State := ((s.raiseOn .c e).raiseOn .p e).raiseOn .t e

/-- Enter an event kind where a condition holds. -/
def State.raiseIf (b : Bool) (e : Event) (s : State) : State := if b then s.raise e else s

/-- A LINK event on the other two links (R156, R157). -/
def State.raiseOthers (l : Link) (s : State) : State :=
  match l with
  | .c => (s.raiseOn .p .link).raiseOn .t .link
  | .p => (s.raiseOn .c .link).raiseOn .t .link
  | .t => (s.raiseOn .c .link).raiseOn .p .link

/-! ### Incidents and FAULT_N -/

/-- R164: some kind is set, SEVERE and not masked. -/
def faultLevel (cfg : Settings) (g : Log) : Bool :=
  allRecs.any fun k => tget g.status k && (tget cfg.severity k == .severe) && !(cfg.faultMask.getLsbD k.val)

/-- FAULT_N formed again; in LOADING and while RST_N is low it keeps its level (R164). -/
def State.formFaultN (s : State) : State :=
  { s with log := { s.log with faultN := if s.isRun then faultLevel s.set s.log else s.log.faultN } }

/-- Status, count and capture of one raising (R163 steps 1 to 3). -/
def Log.take (g : Log) (c : Capture) : Log :=
  { g with
    status := tset g.status c.kind.no true
    count := tset g.count c.kind.no (min 255 (tget g.count c.kind.no + 1))
    capture := match g.capture with
      | some old => some old
      | none => some c }

/-- R163: the log takes one raising, with the capture's circumstances given. -/
def State.raiseWith (k : Incident) (b : Block) (origin : CapOrigin) (target : Option Nat)
    (bytes : Option (List Byte)) (s : State) : State :=
  let c : Capture :=
    { kind := k, block := b, origin := origin, target := target, bytes := bytes, socPm := s.acct.socPm
      time := s.log.clock }
  (({ s with log := s.log.take c } : State).raise .incident).formFaultN

/-- R163, R165: a raising with its origin from the frame being handled, or else as the raising rule gives it
(DEDUCED, log 18). -/
def State.raiseFrom (k : Incident) (b : Block) (origin : CapOrigin) (target : Option Nat) (s : State) : State :=
  match s.handling with
  | some (l, f) => s.raiseWith k b (.link l) target (some f.first4)
  | none => s.raiseWith k b origin target none

/-- R163, R165: a raising whose origin, without a frame, is the raising block. -/
def State.raiseIncident (k : Incident) (b : Block) (target : Option Nat) (s : State) : State :=
  s.raiseFrom k b (.block b) target

/-- Clear the status and count of one kind (R166, R168, R169). -/
def Log.clearKind (k : Fin 22) (g : Log) : Log :=
  { g with status := tset g.status k false, count := tset g.count k 0 }

end Sys2Proof.Machine
end

