-- ==== Sys2Proof/Machine/Pipeline.lean ====
section
/-!
DEFINITION. The load table (chapter 3): from the wanted level of a record through the standing orders to the ordered
level, the reductions and increases, and the drive that the fields yield. Every block reaches an output through
these operations.
-/

namespace Sys2Proof.Machine

/-! ### Fixed properties of a record -/

/-- Records 0 to 11 are switched, 12 to 19 dimmed, 20 and 21 motors. -/
def recKind (r : RecNo) : RecKind := if r.val < 12 then .switched else if r.val < 20 then .dimmed else .motor

def recDriver (r : RecNo) : Driver :=
  if r = 0 ∨ r = 1 ∨ r = 2 ∨ r = 10 then .function else if r.val < 20 then .register else .motion

/-- The device a motor record moves. -/
def deviceOf (r : RecNo) : Option Device := if r = 20 then some .awning else if r = 21 then some .step else none

/-- The dimmed channel of a record: n of record 12 + n. -/
def channelOf (r : RecNo) : Option (Fin 8) := if 12 ≤ r.val then fin8Of (r.val - 12) else none

/-! ### Reading the state -/

/-- The fields of record `r` that are not settings. -/
def State.row (s : State) (r : RecNo) : LoadRec := tget s.tab r

/-- The settings of record `r`. -/
def State.cfg (s : State) (r : RecNo) : RecSettings := tget s.set.recs r

/-- The published protection state is CUT. -/
def State.cut (s : State) : Bool := s.acct.bank == .cut

/-- R35, R80: the class that a record whose configured class is `n` counts in. -/
def State.classFrom (s : State) (r : RecNo) (n : Nat) : Nat :=
  if r = 2 ∨ r = 20 ∨ r = 21 then 3
  else if r = 1 ∧ s.clim.heater = .coolDown then 3
  else n

/-- The effective class that an allocation pass finds (R35, R80). -/
def State.effClass (s : State) (r : RecNo) : Nat := s.classFrom r (s.cfg r).cls

/-- The effective class since the last pass: a new class acts at the next one (R36). -/
def State.classNow (s : State) (r : RecNo) : Nat := s.classFrom r (tget s.inForce.cls r)

/-- The dim factor of the record's class, 1000 for effective class 3 (R39, R144). -/
def State.classDim (s : State) (r : RecNo) : Nat :=
  match classOf (s.classNow r) with
  | some c => (s.alloc.cls.get c).dim
  | none => 1000

/-- The direction a motion state drives its motor in (R125). -/
def MotionState.dir : MotionState → Option Dir
  | .deploying => some .outward
  | .stowing => some .inward
  | _ => none

/-- A dimmed record may be lit: RUN, not CUT, protection NORMAL (R41). -/
def State.lit (s : State) (r : RecNo) : Bool := s.isRun && !s.cut && (s.row r).prot == .normal

/-- The drive of a record (R40, R41, R42); record 2 follows the retained drain drive while that is held. -/
def State.driveOn (s : State) (r : RecNo) : Bool :=
  match recKind r with
  | .switched =>
    if r = 2 ∧ s.clim.heldDrive.isSome then s.clim.heldDrive == some true
    else s.isRun && !s.cut && (s.row r).prot == .normal && (s.row r).alloc == .granted && (s.row r).granted == 1000
  | .dimmed =>
    match channelOf r with
    | some n => tget s.light.out n != 0
    | none => false
  | .motor =>
    match deviceOf r with
    | some d => s.isRun && !s.cut && (s.row r).granted == 1000 && (s.mot.get d).state.dir.isSome
    | none => false

/-- The target the load table gives the lighting controller (R41). -/
def State.lightTarget (s : State) (n : Fin 8) : Nat :=
  if s.lit (lightRec n) then (s.row (lightRec n)).granted else 0

/-! ### What follows a change of drive -/

/-- R53: a drive that comes on during its own slot ends that slot's test as ABORTED. -/
def State.abortTest (r : RecNo) (s : State) : State :=
  match s.test.seq with
  | .running slot .testing =>
    if slot.val = r.val then
      ({ s with test := { s.test with seq := .running slot .aborted } } : State).raiseIncident .selftestAbort
        .channelProtection (some r.val)
    else s
  | _ => s

/-- What a change of the drive of record `r`, which was `was`, brings with it: the rest count and last direction of
a motor (R125), the output level of a light whose target is no longer its granted level (R41), the self-test slot of
a switched channel (R53). -/
def State.noteDrive (r : RecNo) (was : Bool) (s : State) : State :=
  match recKind r with
  | .motor =>
    match deviceOf r with
    | some d =>
      let m := s.mot.get d
      let now := s.driveOn r
      let m' : Motion :=
        if was && !now then { m with rest := 0 }
        else if !was && now then { m with lastDir := m.state.dir }
        else m
      { s with mot := s.mot.set d m' }
    | none => s
  | .dimmed =>
    match channelOf r with
    | some n => if s.lit r then s else { s with light := { s.light with out := tset s.light.out n 0 } }
    | none => s
  | .switched => if !was && s.driveOn r then s.abortTest r else s

/-- Change the fields of one record; the drive follows at once (R40 to R42). -/
def State.modRec (r : RecNo) (f : LoadRec → LoadRec) (s : State) : State :=
  ({ s with tab := tset s.tab r (f (s.row r)) } : State).noteDrive r (s.driveOn r)

/-- Change the motion controller of a device; the drive of its motor record follows at once. -/
def State.modMotion (d : Device) (f : Motion → Motion) (s : State) : State :=
  ({ s with mot := s.mot.set d (f (s.mot.get d)) } : State).noteDrive d.motor (s.driveOn d.motor)

/-- Let every drive follow a change, made by `f`, of a field that all drives depend on. -/
def State.withDrives (f : State → State) (s : State) : State :=
  allRecs.foldl (fun t r => t.noteDrive r (s.driveOn r)) (f s)

/-! ### Wanted and ordered -/

/-- R37, R38: a level above 0 of a switched or motor record is stored as 1000. -/
def storeLevel (r : RecNo) (level : Nat) : Nat :=
  match recKind r with
  | .dimmed => level
  | _ => if level = 0 then 0 else 1000

/-- Truth of a standing order condition; every condition is held false outside RUN (R74, R77). -/
def State.condTrue (s : State) (c : Condition) : Bool :=
  s.isRun &&
    match c with
    | .ignitionOn => s.mu.ign
    | .engineRunning => s.mu.engine
    | .vehicleMoving => match s.vehicle.speed with
      | some v => decide (3 ≤ v)
      | none => false
    | .shorePresent => s.mu.shore
    | .bankReserve => s.acct.bank == .reserve
    | .bankCold => decide (s.mu.tBank < 0)
    | .cabinDoorOpen => s.mu.door
    | .greyFull => s.water.greyFull

/-- A slot is active while it is enabled and its condition is true (R74). -/
def State.slotActive (s : State) (i : Fin 8) : Bool :=
  (tget s.set.slots i).enabled && s.condTrue (tget s.set.slots i).condition

/-- The active slots of one action that name the record, lowest number first. -/
def State.activeSlots (s : State) (a : SlotAction) (r : RecNo) : List (Fin 8) :=
  all8.filter fun i => s.slotActive i && (tget s.set.slots i).action == a && (tget s.set.slots i).target == r

/-- The ordered level and order_slot that R75 forms; records outside 3..19 take their wanted level (R38). -/
def State.orderFor (s : State) (r : RecNo) : Nat × Option (Fin 8) :=
  let w := (s.row r).wanted
  if r ∈ orderRecs then
    match s.activeSlots .force r with
    | i :: _ => (storeLevel r (tget s.set.slots i).level, some i)
    | [] =>
      let caps := s.activeSlots .cap r
      let low := caps.foldl (fun m i => min m (tget s.set.slots i).level) w
      let stored := storeLevel r low
      (stored, if stored < w then caps.find? (fun i => (tget s.set.slots i).level == low) else none)
  else (w, none)

/-- The granted level after a change of the ordered level from `old` to `new` (R39). -/
def reducedGrant (r : RecNo) (old new dim granted : Nat) : Nat :=
  if new < old then
    match recKind r with
    | .dimmed => min granted (new * dim / 1000)
    | _ => 0
  else granted

/-- A change of the ordered level taken by the load table (R39, R80). -/
def State.setOrdered (r : RecNo) (level : Nat) (slot : Option (Fin 8)) (s : State) : State :=
  let x := s.row r
  if x.ordered = level ∧ x.orderSlot = slot then s
  else
    let dim := s.classDim r
    s.modRec r fun x =>
      { x with
        ordered := level
        orderSlot := slot
        granted := reducedGrant r x.ordered level dim x.granted
        join := x.join || (x.ordered == 0 && level != 0) }

/-- The standing order table evaluates a record (R76). -/
def State.evalOrder (r : RecNo) (s : State) : State := s.setOrdered r (s.orderFor r).1 (s.orderFor r).2

/-- A driver hands on a wanted level (R37, R76). -/
def State.setWanted (r : RecNo) (level : Nat) (who : WantedBy) (s : State) : State :=
  let v := storeLevel r level
  let x := s.row r
  if x.wanted = v ∧ x.wantedBy = who then s
  else (s.modRec r fun x => { x with wanted := v, wantedBy := who }).evalOrder r

/-- The records that an enabled slot with this condition names (R76). -/
def State.conditionRecs (s : State) (c : Condition) : List RecNo :=
  orderRecs.filter fun r =>
    all8.any fun i =>
      (tget s.set.slots i).enabled && (tget s.set.slots i).condition == c && (tget s.set.slots i).target == r

/-- A change of truth of one condition, taken for every record an enabled slot on it names (R76). -/
def State.evalCondition (c : Condition) (s : State) : State :=
  (s.conditionRecs c).foldl (fun t r => t.evalOrder r) s

/-- Evaluate the condition where its truth has changed. -/
def State.evalConditionIf (b : Bool) (c : Condition) (s : State) : State := if b then s.evalCondition c else s

end Sys2Proof.Machine
end

