-- ==== Sys2Proof/Machine/Water.lean ====
section
/-!
DEFINITION. The water controller (chapter 7): the fresh and grey tanks, the pump, its dry-run timer and DRY_LOCK.
-/

namespace Sys2Proof.Machine

/-! ### The fresh tank -/

/-- R114: the fresh level of a sender ratio, rounded toward zero and clamped. -/
def freshLevel (empty full raw : Nat) : Nat :=
  if full = empty then 0
  else (clampInt 0 1000 ((((raw : Int) - empty) * 1000).tdiv ((full : Int) - empty))).toNat

/-- Ascending insertion. -/
def insertAsc (x : Nat) : List Nat → List Nat
  | [] => [x]
  | y :: ys => if x ≤ y then x :: y :: ys else y :: insertAsc x ys

def sortAsc (xs : List Nat) : List Nat := xs.foldr insertAsc []

/-- R115: the third value of the window in ascending order. -/
def median5 (xs : List Nat) : Nat := (sortAsc xs).getD 2 0

def Band.no : Band → Nat
  | .empty => 0
  | .low => 1
  | .mid => 2
  | .high => 3
  | .full => 4

/-- Lower boundary of a band (R116); EMPTY has none. -/
def Band.lower : Band → Nat
  | .empty => 0
  | .low => 50
  | .mid => 250
  | .high => 750
  | .full => 950

/-- The plain band of a level (R116). -/
def plainBand (level : Nat) : Band :=
  if level < 50 then .empty
  else if level < 250 then .low
  else if level < 750 then .mid
  else if level < 950 then .high
  else .full

/-- R116 upward: the highest band above `b`, not above the plain band, whose boundary the level passes by 20. -/
def bandUp (b : Band) (level : Nat) : Band :=
  (([.full, .high, .mid, .low] : List Band).find? fun x =>
    decide (b.no < x.no) && decide (x.no ≤ (plainBand level).no) && decide (x.lower + 20 ≤ level)).getD b

/-- R116 downward: the lowest band below `b`, not below the plain band, with the level below the boundary of the
band above it minus 20. Each pair is a band and the boundary of the band above it. -/
def bandDown (b : Band) (level : Nat) : Band :=
  ((([(.empty, 50), (.low, 250), (.mid, 750), (.high, 950)] : List (Band × Nat)).find? fun x =>
    decide (x.1.no < b.no) && decide ((plainBand level).no ≤ x.1.no) && decide (level < x.2 - 20)).map (·.1)).getD b

/-- R116: the band after a level. -/
def moveBand (b : Band) (level : Nat) : Band :=
  if b.no < (plainBand level).no then bandUp b level
  else if (plainBand level).no < b.no then bandDown b level
  else b

/-- R115: a sweep is held while the vehicle moves, or while the speed is UNKNOWN and IGN is on. -/
def State.waterHeld (s : State) : Bool :=
  match s.vehicle.speed with
  | some v => decide (3 ≤ v)
  | none => s.mu.ign

/-- R117: the highest wet probe. -/
def greyOf (m : Sweep) : Nat :=
  if m.g100 then 1000 else if m.g75 then 750 else if m.g50 then 500 else if m.g25 then 250 else 0

/-! ### The pump -/

/-- The table of R118, with the grey inhibit of the last sweep processed (R112). -/
def State.pumpTable (s : State) : PumpState :=
  let w := s.water
  if w.mode = .off then .off
  else if w.band = .empty then .inhibited
  else if w.drain = .opened then .inhibited
  else if w.greyFull = true ∧ s.inForce.greyInhibit = true then .inhibited
  else if w.press then .idle
  else .running

/-- A change of pump state: the dry-run timer returns to 0, a WATER event is raised, and record 0's wanted level
follows (R118, R119). -/
def State.setPump (p : PumpState) (s : State) : State :=
  if s.water.pump = p then s
  else
    (({ s with water := { s.water with pump := p, dryTimer := 0 } } : State).raise .water).setWanted 0
      (if p = .running then 1000 else 0) .function

/-- R118: evaluation; a pump in DRY_LOCK is not evaluated. -/
def State.pumpEval (s : State) : State := if s.water.pump = .dryLock then s else s.setPump s.pumpTable

/-- R121: the pump leaves DRY_LOCK and is evaluated at once. -/
def State.pumpRelease (s : State) : State :=
  if s.water.pump = .dryLock then
    let t : State := { s with water := { s.water with lockCause := none } }
    t.setPump t.pumpTable
  else s

/-- R119: the dry-run limit is reached. The rule raises DRY_RUN "together with" a WATER event; WATER is entered first (DESIGN
CHOICE, log 24). -/
def State.pumpDry (s : State) : State :=
  let t : State := { s with water := { s.water with levelAtLock := s.water.level, lockCause := some .dry } }
  (t.setPump .dryLock).raiseIncident .dryRun .water (some 0)

/-- R120: the trip report of record 0. -/
def State.pumpTrip (s : State) : State :=
  if s.water.pump = .dryLock then s
  else ({ s with water := { s.water with lockCause := some .trip } } : State).setPump .dryLock

/-- Hand-over of a pump mode (R68, R118). -/
def State.handPumpMode (m : PumpMode) (who : WantedBy) (s : State) : State :=
  ({ s with water := { s.water with mode := m, modeBy := who } } : State).pumpEval

/-- Hand-over of a drain state (R105, R118); the water controller takes it in RUN (R123). -/
def State.handDrain (d : DrainState) (s : State) : State :=
  if s.isRun then ({ s with water := { s.water with drain := d } } : State).pumpEval else s

/-! ### The sweep (R113) -/

/-- Step 1 (R114, R115): level, window and hold; the inputs that later hand-overs use are noted (R118, R122). The hold wins
over the filling of the window at the first sweep (DEDUCED, log 34). -/
def State.waterStep1 (s : State) : State :=
  let x := freshLevel s.set.water.freshEmpty s.set.water.freshFull s.mu.sender
  let w := { s.water with press := s.mu.press, ratio := s.mu.sender, rawLevel := x }
  let w' : Water :=
    if s.waterHeld then { w with held := true }
    else if w.held || w.refill || w.window.isEmpty then
      { w with window := [x, x, x, x, x], level := x, held := false, refill := false }
    else
      let win := w.window.drop 1 ++ [x]
      { w with window := win, level := median5 win }
  { s with water := w', inForce := { s.inForce with greyInhibit := s.set.water.greyInhibit } }

/-- Step 2 (R116): the band. At the first sweep after a reset it is the plain band, at a held sweep it stays. -/
def State.waterStep2 (s : State) : State :=
  let w := s.water
  let b :=
    if w.started = false then plainBand w.level
    else if w.held then w.band
    else moveBand w.band w.level
  ({ s with water := { w with band := b, started := true } } : State).raiseIf (decide (b ≠ w.band)) .water

/-- Step 3 (R117): the grey level and GREY_FULL. -/
def State.waterStep3 (s : State) : State :=
  let w := s.water
  let g := greyOf s.mu
  let t := ({ s with water := { w with greyLevel := g, greyFull := s.mu.g100 } } : State)
  (t.raiseIf (decide (g ≠ w.greyLevel)) .water).evalConditionIf (s.mu.g100 != w.greyFull) .greyFull

/-- Step 4 (R121): release by fill. -/
def State.waterStep4 (s : State) : State :=
  if s.water.lockCause = some .dry ∧ s.water.levelAtLock + 100 ≤ s.water.level then s.pumpRelease else s

/-- Step 6 (R119): the dry-run timer. -/
def State.waterStep6 (s : State) : State :=
  if s.water.pump = .running then
    if s.driveOn 0 then
      let n := s.water.dryTimer + 1
      let t : State := { s with water := { s.water with dryTimer := n } }
      if s.set.water.dryLimit * 10 ≤ n then t.pumpDry else t
    else s
  else { s with water := { s.water with dryTimer := 0 } }

/-- R113: one sweep of the water controller, from the entry to RUN. -/
def State.waterSweep (s : State) : State :=
  if s.isRun then s.waterStep1.waterStep2.waterStep3.waterStep4.pumpEval.waterStep6 else s

end Sys2Proof.Machine
end

