-- ==== Sys2Proof/Machine/Climate.lean ====
section
/-!
DEFINITION. The climate controller (chapter 6): the thermostat, the heater's six states, the drain valve.
-/

namespace Sys2Proof.Machine

/-- R94: the effective setpoint; none in mode OFF. -/
def Climate.effective (c : Climate) : Option Nat :=
  match c.mode with
  | .comfort => some c.setpoint
  | .eco => some (max 10 (c.setpoint - 6))
  | .frost => some 10
  | .off => none

/-- R95: the call of a sweep. -/
def Climate.nextCall (c : Climate) (tCabin : Int) : Bool :=
  match c.effective with
  | none => false
  | some e => if tCabin ≤ (e : Int) - 1 then true else if (e : Int) + 1 ≤ tCabin then false else c.call

/-- Record 1's wanted level in a heater state (R96). -/
def heaterWanted : HeaterState → Nat
  | .off => 0
  | .lockout => 0
  | _ => 1000

/-- HEAT_REQ follows the heater state and is off in LOADING (R96). -/
def State.heatReq (s : State) : Bool := s.isRun && (s.clim.heater == .start || s.clim.heater == .run)

/-! ### Changes of heater state -/

/-- A change of heater state: a CLIMATE event (R108), then record 1's wanted level (R96). -/
def State.setHeater (f : Climate → Climate) (s : State) : State :=
  let c := f s.clim
  let t := ({ s with clim := c } : State).raiseIf (decide (c.heater ≠ s.clim.heater)) .climate
  t.setWanted 1 (heaterWanted c.heater) .function

def State.heaterWait (s : State) : State := s.setHeater fun c => { c with heater := .waitBudget }

/-- The heater enters OFF, its timers stopped and its fault mark clear. -/
def State.heaterRest (s : State) : State :=
  s.setHeater fun c => { c with heater := .off, faultMark := false, startTimer := 0, coolTimer := 0 }

/-- R97: the heater enters OFF, and passes on to WAIT_BUDGET if the call is on. -/
def State.heaterOff (s : State) : State :=
  let t := s.heaterRest
  if t.clim.call then t.heaterWait else t

/-- R98: entry to START. -/
def State.heaterStart (s : State) : State :=
  s.setHeater fun c => { c with heater := .start, startTimer := 1800 }

/-- R98: a flame in START. -/
def State.heaterRun (s : State) : State :=
  s.setHeater fun c => { c with heater := .run, startTimer := 0, failCount := 0 }

/-- R101: entry to COOL_DOWN, with the fault mark as given and `fails` more failed starts. -/
def State.heaterCool (mark : Bool) (fails : Nat) (s : State) : State :=
  s.setHeater fun c =>
    { c with
      heater := .coolDown
      faultMark := mark
      startTimer := 0
      coolTimer := 1800
      failCount := min 3 (c.failCount + fails) }

/-- R102: entry to LOCKOUT; in LOCKOUT nothing changes. -/
def State.heaterLockout (s : State) : State :=
  if s.clim.heater = .lockout then s
  else
    (s.setHeater fun c => { c with heater := .lockout, faultMark := false, startTimer := 0, coolTimer := 0 }).raiseIncident
      .heaterLockout .climate (some 1)

/-- R101: the end of a COOL_DOWN. -/
def State.heaterCoolEnd (s : State) : State :=
  if s.clim.failCount = 3 ∨ s.clim.faultMark = true then s.heaterLockout else s.heaterOff

/-! ### Notices and hand-overs -/

/-- R97: the grant notice. -/
def State.grantNotice (s : State) : State := if s.clim.heater = .waitBudget then s.heaterStart else s

/-- R98, R99: the shed notice. -/
def State.shedNotice (s : State) : State :=
  if s.clim.heater = .start ∨ s.clim.heater = .run then s.heaterCool false 0 else s

/-- R95, R97 to R99: what a hand-over of mode OFF does to the heater. -/
def State.heaterModeOff (s : State) : State :=
  let t : State := { s with clim := { s.clim with call := false } }
  match s.clim.heater with
  | .waitBudget => t.heaterOff
  | .start => t.heaterCool false 0
  | .run => t.heaterCool false 0
  | _ => t

/-- Hand-over of a heating mode (R68, R94, R95). -/
def State.handHeatMode (m : HeatMode) (who : WantedBy) (s : State) : State :=
  let t : State := { s with clim := { s.clim with mode := m, modeBy := who } }
  if m = .off then t.heaterModeOff else t

/-- Hand-over of a setpoint (R68, R94). -/
def State.handSetpoint (v : Nat) (who : WantedBy) (s : State) : State :=
  { s with clim := { s.clim with setpoint := v, setpointBy := who } }

/-! ### The drain -/

/-- R105, R106: the drain opens; a cause that finds it OPEN changes nothing. -/
def State.openDrain (cause : OpenCause) (s : State) : State :=
  if s.clim.drain = .opened then s
  else
    let t : State :=
      { s with
        clim := { s.clim with drain := .opened, openCause := cause, heldDrive := s.clim.heldDrive.map fun _ => false } }
    (((t.setWanted 2 0 .function).raiseIncident .frostDrain .climate (some 2)).raise .climate).handDrain .opened

/-- R107: an accepted CLOSE_DRAIN. -/
def State.shutDrain (s : State) : State :=
  ((({ s with clim := { s.clim with drain := .closed } } : State).setWanted 2 1000 .function).raise .climate).handDrain
    .closed

/-- R104: the heater at the publication of CUT. It rests in OFF; a call takes it on at step 5 of a later sweep
(DEDUCED, log 20). -/
def State.heaterCut (s : State) : State :=
  match s.clim.heater with
  | .start => s.heaterRest
  | .run => s.heaterRest
  | .coolDown => if s.clim.failCount = 3 ∨ s.clim.faultMark = true then s.heaterLockout else s.heaterRest
  | _ => s

/-- R104, R106: the publication of CUT. -/
def State.climateCut (s : State) : State := s.heaterCut.openDrain .cut

/-! ### The sweep (R96) -/

/-- Step 1 (R95). -/
def State.climateStep1 (s : State) : State :=
  { s with clim := { s.clim with call := s.clim.nextCall s.mu.tCabin, tCabin := some s.mu.tCabin } }

/-- Step 2 (R100). -/
def State.climateStep2 (s : State) : State :=
  if s.mu.htrFlt then
    match s.clim.heater with
    | .start => s.heaterCool true 0
    | .run => s.heaterCool true 0
    | .coolDown => { s with clim := { s.clim with faultMark := true } }
    | .off => s.heaterLockout
    | .waitBudget => s.heaterLockout
    | .lockout => s
  else s

/-- Step 3 (R98, R99). -/
def State.climateStep3 (s : State) : State :=
  if s.clim.heater = .start ∧ s.mu.flame = true then s.heaterRun
  else if s.clim.heater = .run ∧ s.mu.flame = false then s.heaterCool false 1
  else s

/-- Step 4 (R98, R101). -/
def State.climateStep4 (s : State) : State :=
  match s.clim.heater with
  | .start =>
    let t : State := { s with clim := { s.clim with startTimer := s.clim.startTimer - 1 } }
    if s.clim.startTimer ≤ 1 then t.heaterCool false 1 else t
  | .coolDown =>
    let t : State := { s with clim := { s.clim with coolTimer := s.clim.coolTimer - 1 } }
    if s.clim.coolTimer ≤ 1 then t.heaterCoolEnd else t
  | _ => s

/-- Step 5 (R97, R99). -/
def State.climateStep5 (s : State) : State :=
  match s.clim.heater, s.clim.call with
  | .off, true => s.heaterWait
  | .waitBudget, false => s.heaterOff
  | .run, false => s.heaterCool false 0
  | _, _ => s

/-- Step 6 (R106): the frost test. -/
def State.climateStep6 (s : State) : State :=
  let t : State := { s with clim := { s.clim with tValve := some s.mu.tValve } }
  if s.mu.tValve ≤ 6 ∧ s.clim.heater ≠ .run then t.openDrain .frost else t

/-- R96: one sweep of the climate controller; after RST_N, and while it is low, step 6 alone (R110, R170) (DEDUCED,
log 20). -/
def State.climateSweep (s : State) : State :=
  match s.phase with
  | .run => s.climateStep1.climateStep2.climateStep3.climateStep4.climateStep5.climateStep6
  | .loading true => s.climateStep6
  | .resetLow => s.climateStep6
  | .loading false => s

end Sys2Proof.Machine
end

