-- ==== Sys2Proof/Machine/Register.lean ====
section
/-!
DEFINITION. The demand register (chapter 4): placement, withdrawal, expiry, tether removal, resolution and echo. Every
change of the list goes through `State.regApply`, which is one operation of R58.
-/

namespace Sys2Proof.Machine

/-- The register holds at most 32 entries (R56). -/
def regSize : Nat := 32

/-- Targets no entry can have: the function and motion records (R57). -/
def functionOwned (t : Nat) : Bool := t == 0 || t == 1 || t == 2 || t == 10 || t == 20 || t == 21

/-- Targets that are resolved and handed on, in ascending number (R68). -/
def regTargets : List Nat := [3, 4, 5, 6, 7, 8, 9, 11, 12, 13, 14, 15, 16, 17, 18, 19, 22, 23, 24]

/-- REGISTER records (R69). -/
def isRegisterRec (t : Nat) : Bool := (decide (3 ≤ t) && decide (t ≤ 9)) || (decide (11 ≤ t) && decide (t ≤ 19))

/-- R57: a level brought into the range of its target, and whether that was a clamp. -/
def levelFor (t level : Nat) : Nat × Bool :=
  let r := fun (lo hi : Nat) => (clampNat lo hi level, decide (level < lo ∨ hi < level))
  if t = 22 then r 0 3
  else if t = 23 then r 10 60
  else if t = 24 then r 0 1
  else if t < 12 then (if level = 0 then 0 else 1000, decide (1000 < level))
  else r 0 1000

/-- R68: the rest level of a target. -/
def Settings.restLevel (cfg : Settings) (t : Nat) : Nat :=
  if t = 22 then 1
  else if t = 23 then 40
  else if t = 24 then 0
  else match recOf t with
    | some r => (tget cfg.recs r).rest
    | none => 0

/-! ### Resolution -/

/-- R67: of two entries, oldest first, the one that prevails. -/
def prevailing (best : Option Entry) (e : Entry) : Option Entry :=
  match best with
  | none => some e
  | some b => if b.prec ≤ e.prec then some e else some b

/-- R67: the entry that decides a target, in a list with the oldest first. -/
def decider (es : List Entry) (t : Nat) : Option Entry :=
  (es.filter fun e => e.target == t).foldl prevailing none

/-- R67: the resolved level and deciding origin of a target. -/
def resolveIn (cfg : Settings) (es : List Entry) (t : Nat) : Nat × WantedBy :=
  match decider es t with
  | some e => (e.level, e.origin.by)
  | none => (cfg.restLevel t, .rest)

def heatModeOf : Nat → HeatMode
  | 0 => .off
  | 1 => .frost
  | 2 => .eco
  | _ => .comfort

def pumpModeOf : Nat → PumpMode
  | 0 => .off
  | _ => .auto

/-- R68: hand one resolved value to its receiver. -/
def State.handOn (t : Nat) (v : Nat × WantedBy) (s : State) : State :=
  if t = 22 then s.handHeatMode (heatModeOf v.1) v.2
  else if t = 23 then s.handSetpoint v.1 v.2
  else if t = 24 then s.handPumpMode (pumpModeOf v.1) v.2
  else match recOf t with
    | some r => s.setWanted r v.1 v.2
    | none => s

/-- R70: a DEMAND event on each link whose echo set holds the origin of a changed entry. -/
def State.echo (origins : List Origin) (s : State) : State :=
  allLinks.foldl (fun t l => if origins.any fun o => (s.lk l).echo.getLsbD o.no then t.raiseOn l .demand else t) s

/-- R58: one operation of the register, where the settings were `was` before it. The list becomes `es`, the resolved
values that changed are handed on, and the changes of the entries of `origins` are echoed (DESIGN CHOICE for the order,
log 31). -/
def State.regApplyFrom (was : Settings) (es : List Entry) (origins : List Origin) (s : State) : State :=
  let old := s.reg
  let cfg := s.set
  let t : State := { s with reg := es }
  (regTargets.foldl
    (fun u n => if resolveIn cfg es n = resolveIn was old n then u else u.handOn n (resolveIn cfg es n)) t).echo origins

/-- R58: one operation of the register that changes the list alone. -/
def State.regApply (es : List Entry) (origins : List Origin) (s : State) : State := s.regApplyFrom s.set es origins

/-- R58, R68: hand on the resolved value of every target. -/
def State.handAll (s : State) : State :=
  regTargets.foldl (fun u n => u.handOn n (resolveIn s.set s.reg n)) s

/-! ### Operations on the list -/

/-- An entry of this origin and target. -/
def Entry.is (o : Origin) (t : Nat) (e : Entry) : Bool := e.origin == o && e.target == t

def hasEntry (es : List Entry) (o : Origin) (t : Nat) : Bool := es.any (Entry.is o t)

/-- R61: replacement or new entry at the tail; none where the register is full. -/
def placeIn (es : List Entry) (e : Entry) : Option (List Entry) :=
  if hasEntry es e.origin e.target then some ((es.filter fun x => !(Entry.is e.origin e.target x)) ++ [e])
  else if es.length < regSize then some (es ++ [e])
  else none

/-- R61 as a change of the register, where there is room. -/
def State.placeEntry (e : Entry) (s : State) : State :=
  match placeIn s.reg e with
  | some es => s.regApply es [e.origin]
  | none => s

/-- Remove the entries a predicate names, as one operation. -/
def State.removeEntries (f : Entry → Bool) (s : State) : State :=
  s.regApply (s.reg.filter fun e => !(f e)) ((s.reg.filter f).map (·.origin))

/-- R64 step 1: one second less. -/
def Entry.tick (e : Entry) : Entry :=
  match e.hold with
  | .timed n => { e with hold := .timed (n - 1) }
  | _ => e

/-- R64 step 2: the time has run out. -/
def Entry.expired (e : Entry) : Bool := e.hold == .timed 0

/-- R64: one expiry of the 1-second timer. -/
def State.oneSecond (s : State) : State :=
  let ticked := s.reg.map Entry.tick
  s.regApply (ticked.filter fun e => !e.expired) ((ticked.filter Entry.expired).map (·.origin))

/-- R65: a tether removal. -/
def State.tetherRemoval (l : Link) (s : State) : State :=
  s.removeEntries fun e => e.origin == l.origin && e.hold == .tethered

/-- R66: one entry under a ceiling. -/
def Entry.capPrec (o : Origin) (ceiling : Nat) (e : Entry) : Entry :=
  if e.origin = o then { e with prec := min ceiling e.prec } else e

/-- R66: one entry under the ceilings that the settings `now` lower. -/
def Entry.capped (was now : Settings) (e : Entry) : Entry :=
  allLinks.foldl
    (fun x l =>
      let ceiling := (now.links.get l).ceiling
      if ceiling < (was.links.get l).ceiling then x.capPrec l.origin ceiling else x) e

/-- R58, R65, R66, R159: new settings reach the register as one operation. Changed rest levels are resolved, lowered
ceilings cap the entries held, and the links of `loses` lose their TETHERED entries. -/
def State.regSettings (was : Settings) (loses : List Link) (s : State) : State :=
  let gone := fun (e : Entry) => e.hold == .tethered && loses.any fun l => e.origin == l.origin
  let lowered := fun (e : Entry) => (e.capped was s.set).prec != e.prec
  s.regApplyFrom was ((s.reg.filter fun e => !gone e).map (Entry.capped was s.set))
    ((s.reg.filter fun e => gone e || lowered e).map (·.origin))

/-- R72: the DEMANDS group reset. -/
def State.regReset (s : State) : State := s.removeEntries fun _ => true

/-! ### Internal origins (R69) -/

/-- Precedence and hold of an internal origin's placement. -/
def internalEntry (o : Origin) (t level secs : Nat) : Entry :=
  match o with
  | .step => { origin := .step, target := t, level := level, prec := 2, hold := .persist }
  | o => { origin := o, target := t, level := level, prec := 1, hold := .timed secs }

/-- R69: a placement by an internal origin; it is not taken before RUN (R58). -/
def State.placeInternal (o : Origin) (t level secs : Nat) (s : State) : State :=
  if s.isRun && isRegisterRec t then s.placeEntry (internalEntry o t level secs) else s

/-- R69: a withdrawal by an internal origin. -/
def State.withdrawInternal (o : Origin) (t : Nat) (s : State) : State :=
  if s.isRun then s.removeEntries (Entry.is o t) else s

/-! ### Group placement (R62) -/

/-- R62: the pairs of a group placed in list order; none where the new entries exceed the free space. -/
def placeGroup (es : List Entry) (group : List Entry) : Option (List Entry) :=
  let new := (group.filter fun e => !(hasEntry es e.origin e.target)).length
  if regSize - es.length < new then none
  else some (group.foldl (fun acc e => (placeIn acc e).getD acc) es)

end Sys2Proof.Machine
end

