-- ==== Sys2Proof/Machine/Motion.lean ====
section
/-!
DEFINITION. The motion controllers A and S (chapter 8): commands and their checks, the sweep, faults and latch,
automatic commands and the wind.
-/

namespace Sys2Proof.Machine

/-! ### Reading the state -/

/-- The switch inputs of a device as the latest sweep published them. -/
def State.inputs (s : State) : Device → DeviceInputs
  | .awning => s.mu.awn
  | .step => s.mu.stp

/-- The switch inputs of a device one sweep before. -/
def State.inputsBefore (s : State) : Device → DeviceInputs
  | .awning => s.prev.awn
  | .step => s.prev.stp

/-- Travel time in ms (8.1). -/
def State.tFullMs (s : State) (d : Device) : Nat := s.set.motion.tFull.get d * 1000

/-- R127: the position in per mille of travel, 0..1000, with the travel time of the last sweep (R124). -/
def State.posPm (s : State) (d : Device) : Nat :=
  min 1000 ((s.mot.get d).runMs * 1000 / (s.inForce.tFull.get d * 1000))

/-- R139: the lamp pattern of a motion state; off through LOADING. -/
def State.lamp (s : State) (d : Device) : Lamp :=
  if s.isRun then
    match (s.mot.get d).state with
    | .stowed => .off
    | .latched => .off
    | .deployed => .steady
    | .halted => .steady
    | .deploying => .blink1
    | .stowing => .blink1
    | .pause _ => .blink1
    | .fault _ => .blink4
  else .off

/-- IGN is seen turning on at this sweep (R136). -/
def State.ignRising (s : State) : Bool := s.mu.ign && !s.prev.ign

/-- VEHICLE_MOVING (R160). -/
def State.vehicleMoving (s : State) : Bool :=
  match s.vehicle.speed with
  | some v => decide (3 ≤ v)
  | none => false

/-- The speed is UNKNOWN with IGN on (R130, R136). -/
def State.speedInDoubt (s : State) : Bool := s.vehicle.speed.isNone && s.mu.ign

/-- Origin of an incident of a movement (R165): the source of the command that began it. -/
def CmdSource.origin : CmdSource → CapOrigin
  | .link l => .link l
  | .button => .button
  | .automatic => .block .motion

/-! ### Changes of motion state -/

/-- The step-light demand of a change of the step's state from `a` to `b` (R138). -/
def State.stepLight (a b : MotionState) (s : State) : State :=
  let t := 12 + s.set.light.stepLight.val
  if b = .stowed ∧ a ≠ .stowed then s.withdrawInternal .step t
  else if a = .stowed ∧ b ≠ .stowed ∧ b ≠ .latched then s.placeInternal .step t 1000 0
  else s

/-- Number of a motion state in the order of the state table; a PAUSE is one state whatever follows it, a FAULT
whatever its cause. -/
def MotionState.no : MotionState → Nat
  | .stowed => 0
  | .deploying => 1
  | .deployed => 2
  | .stowing => 3
  | .halted => 4
  | .pause _ => 5
  | .fault _ => 6
  | .latched => 7

/-- Put a controller in a motion state, with the changes `f` of its other fields; the motor record's wanted level
follows (R125), a change raises a MOTION event where it is `loud` (R140, R141), and the step's light follows the
step (R138). -/
def State.putMotion (loud : Bool) (d : Device) (b : MotionState) (f : Motion → Motion) (s : State) : State :=
  let a := (s.mot.get d).state
  let t := (s.modMotion d fun m => { f m with state := b }).raiseIf (loud && a.no != b.no) .motion
  let u := t.setWanted d.motor (if b.dir.isSome then 1000 else 0) .motion
  if d = .step then u.stepLight a b else u

/-- A change of motion state, reported (R140). -/
def State.setMotion (d : Device) (b : MotionState) (f : Motion → Motion) (s : State) : State :=
  s.putMotion true d b f

/-- Enter DEPLOYING or STOWING (R130): travel timer and stall counter at 0. -/
def State.enterMove (d : Device) (dir : Dir) (s : State) : State :=
  s.setMotion d (match dir with
    | .outward => .deploying
    | .inward => .stowing) fun m => { m with travel := 0, stall := 0 }

def pendingOf (dir : Dir) (target : Nat) : Pending :=
  match dir with
  | .outward => .outward target
  | .inward => .inward

/-- R130: the motor has not rested and was last driven the other way, or the last direction is none. -/
def Motion.mustPause (m : Motion) (dir : Dir) : Bool :=
  decide (m.rest < 5) && (m.lastDir == some dir.opposite || m.lastDir.isNone)

/-- R130, R165: a movement that passed its checks is begun, with its source noted. -/
def State.beginMove (d : Device) (dir : Dir) (src : CmdSource) (s : State) : State :=
  let t := s.modMotion d fun m => { m with source := src }
  if (t.mot.get d).mustPause dir then t.setMotion d (.pause (pendingOf dir (t.mot.get d).target)) id
  else t.enterMove d dir

/-- R129, R165: a command redirects the movement through PAUSE. -/
def State.redirect (d : Device) (dir : Dir) (src : CmdSource) (s : State) : State :=
  let t := s.modMotion d fun m => { m with source := src }
  t.setMotion d (.pause (pendingOf dir (t.mot.get d).target)) id

/-- R132: entry to FAULT. -/
def State.enterFault (d : Device) (c : FaultCause) (s : State) : State := s.setMotion d (.fault c) id

/-- R133: the state and the travel accumulator that the latest published inputs give. -/
def State.recomputed (s : State) (d : Device) : MotionState × Nat :=
  let i := s.inputs d
  let run := (s.mot.get d).runMs
  if i.latch then (.latched, run)
  else if i.inSw && !i.outSw then (.stowed, 0)
  else if i.outSw && !i.inSw then (.deployed, s.tFullMs d)
  else if i.inSw && i.outSw then (.fault .sensor, run)
  else (.halted, run)

/-- R133: the state is recomputed, `loud` where the change is one for R140. -/
def State.recomputeWith (loud : Bool) (d : Device) (s : State) : State :=
  s.putMotion loud d (s.recomputed d).1 fun m => { m with runMs := (s.recomputed d).2, travel := 0, stall := 0 }

/-- R133: the state recomputed from the latest published inputs. -/
def State.recompute (d : Device) (s : State) : State := s.recomputeWith true d

/-! ### Commands (R129, R130) -/

/-- The deploy checks of R130; none where they pass. -/
def State.deployChecks (s : State) (d : Device) : Option Status :=
  if s.cut then some .bankCut
  else if s.mu.bankV < s.set.motion.motionMin then some .interlock
  else match d with
    | .awning => if s.mu.ign then some .interlock else if s.wind.lock then some .locked else none
    | .step => if s.vehicleMoving || s.speedInDoubt then some .interlock else none

/-- The stow checks of R130. -/
def State.stowChecks (s : State) : Option Status := if s.cut then some .bankCut else none

/-- DEPLOY sets the target to 1000, EXTEND_TO to p (R129). -/
def State.setTarget (d : Device) (p : Nat) (s : State) : State := s.modMotion d fun m => { m with target := p }

/-- A command that a check may refuse. -/
def State.checked (c : Option Status) (go : State → State × Status) (s : State) : State × Status :=
  match c with
  | some refusal => (s, refusal)
  | none => go s

/-- R129, columns DEPLOY and EXTEND_TO; `p` is the target, `partial_` says that the command is EXTEND_TO (DEDUCED,
log 19). -/
def State.takeDeploy (d : Device) (p : Nat) (partial_ : Bool) (src : CmdSource) (s : State) : State × Status :=
  let reached := partial_ && decide (p ≤ s.posPm d)
  let check := s.deployChecks d
  match (s.mot.get d).state with
  | .stowed =>
    s.checked check fun s => let t := s.setTarget d p
      if reached then (t, .ok) else (t.beginMove d .outward src, .accepted)
  | .halted =>
    s.checked check fun s => let t := s.setTarget d p
      if reached then (t, .ok) else (t.beginMove d .outward src, .accepted)
  | .deploying => (s.setTarget d p, .ok)
  | .deployed => (s.setTarget d p, .ok)
  | .stowing => s.checked check fun s => ((s.setTarget d p).redirect d .outward src, .accepted)
  | .pause _ =>
    s.checked check fun s => let t := s.setTarget d p
      if reached then (t.setMotion d .halted id, .ok) else (t.redirect d .outward src, .accepted)
  | .fault _ => (s, .locked)
  | .latched => (s, .latched)

/-- R129, column STOW. -/
def State.takeStow (d : Device) (src : CmdSource) (s : State) : State × Status :=
  match (s.mot.get d).state with
  | .stowed => (s, .ok)
  | .deploying => s.checked s.stowChecks fun s => (s.redirect d .inward src, .accepted)
  | .deployed => s.checked s.stowChecks fun s => (s.beginMove d .inward src, .accepted)
  | .stowing => (s, .ok)
  | .halted => s.checked s.stowChecks fun s => (s.beginMove d .inward src, .accepted)
  | .pause _ => s.checked s.stowChecks fun s => (s.redirect d .inward src, .accepted)
  | .fault .sensor => (s, .locked)
  | .fault _ => s.checked s.stowChecks fun s => (s.beginMove d .inward src, .accepted)
  | .latched => (s, .latched)

/-- R129, column HALT. -/
def State.takeHalt (d : Device) (s : State) : State × Status :=
  match (s.mot.get d).state with
  | .deploying => (s.setMotion d .halted id, .ok)
  | .stowing => (s.setMotion d .halted id, .ok)
  | .pause _ => (s.setMotion d .halted id, .ok)
  | .latched => (s, .latched)
  | _ => (s, .ok)

/-- R129: a command taken in the controller's state. A DEPLOY, EXTEND_TO or STOW with the latch input engaged is
refused LATCHED in any state. -/
def State.motionCommand (d : Device) (c : MotionCmd) (src : CmdSource) (s : State) : State × Status :=
  match c with
  | .halt => s.takeHalt d
  | .deploy => if (s.inputs d).latch then (s, .latched) else s.takeDeploy d 1000 false src
  | .extendTo p => if (s.inputs d).latch then (s, .latched) else s.takeDeploy d p true src
  | .stow => if (s.inputs d).latch then (s, .latched) else s.takeStow d src

/-- A command replied OK or ACCEPTED was taken; any other status is a refusal. -/
def Status.isTaken : Status → Bool
  | .ok => true
  | .accepted => true
  | .clamped => true
  | _ => false

/-! ### CUT (R134) -/

/-- R134: a moving or pausing controller is HALTED by the publication of CUT. -/
def State.motionCut (d : Device) (s : State) : State :=
  match (s.mot.get d).state with
  | .deploying => s.setMotion d .halted id
  | .stowing => s.setMotion d .halted id
  | .pause _ => s.setMotion d .halted id
  | _ => s

/-! ### Automatic commands (R136) -/

/-- R136: a drive-away of the step (DEDUCED, log 19). -/
def State.driveAway (s : State) : State :=
  let report := fun (t : State) => t.raiseIncident .driveAway .motion (some 21)
  match (s.mot.get .step).state with
  | .stowed => s
  | .fault _ => report s
  | .latched => report s
  | _ =>
    let r := s.motionCommand .step .stow .automatic
    if r.2.isTaken then r.1 else report r.1

/-- R136: IGN turning on with the awning not STOWED. -/
def State.awningIgn (s : State) : State :=
  if (s.mot.get .awning).state = .stowed then s
  else
    let t := (s.raiseIncident .driveAway .motion (some 20)).raise .vehicle
    if s.set.motion.stowOnIgn then (t.motionCommand .awning .stow .automatic).1 else t

/-! ### The sweep (R126) -/

/-- Step 1 (R133): the latch. LATCH_STOP raised while moving names the source of the movement (R165). -/
def State.motionStep1 (d : Device) (s : State) : State :=
  let now := (s.inputs d).latch
  let was := (s.inputsBefore d).latch
  if now && !was then
    match (s.mot.get d).state with
    | .deploying =>
      (s.enterFault d .latch).raiseFrom .latchStop .motion (s.mot.get d).source.origin (some d.motor.val)
    | .stowing =>
      (s.enterFault d .latch).raiseFrom .latchStop .motion (s.mot.get d).source.origin (some d.motor.val)
    | .pause _ => (s.enterFault d .latch).raiseIncident .latchStop .motion (some d.motor.val)
    | .stowed => s.setMotion d .latched id
    | .deployed => s.setMotion d .latched id
    | .halted => s.setMotion d .latched id
    | .fault _ => s
    | .latched => s
  else if !now && was then
    match (s.mot.get d).state with
    | .latched => s.recompute d
    | _ => s
  else s

/-- R127, R131, R132, R125: what one sweep does to the travel fields of a controller, `on` being its bridge's
state, `current` its motor's measured current. -/
def Motion.travelSweep (on : Bool) (current threshold fullMs : Nat) (m : Motion) : Motion :=
  let m1 : Motion :=
    match m.state with
    | .deploying => { m with
        runMs := if on then min fullMs (m.runMs + 100) else m.runMs
        travel := min 900 (m.travel + 1)
        stall := if on then (if threshold < current then min 3 (m.stall + 1) else 0) else m.stall }
    | .stowing => { m with
        runMs := if on then min fullMs (m.runMs - 100) else m.runMs
        travel := min 900 (m.travel + 1)
        stall := if on then (if threshold < current then min 3 (m.stall + 1) else 0) else m.stall }
    | _ => m
  if on then m1 else { m1 with rest := min 5 (m1.rest + 1) }

/-- Step 2. -/
def State.motionStep2 (d : Device) (s : State) : State :=
  s.modMotion d
    (Motion.travelSweep (s.driveOn d.motor) (tget s.mu.currents d.motor) (s.set.motion.stall.get d) (s.tFullMs d))

/-- Step 3 (R127, R132): the end switches (DEDUCED, log 27). -/
def State.motionStep3 (d : Device) (s : State) : State :=
  let i := s.inputs d
  let act : State :=
    if i.inSw && i.outSw then s.enterFault d .sensor
    else if i.inSw then s.modMotion d fun m => { m with runMs := 0 }
    else if i.outSw then s.modMotion d fun m => { m with runMs := s.tFullMs d }
    else s
  match (s.mot.get d).state with
  | .fault _ => s
  | .latched => s
  | _ => act

/-- R131, R132: FAULT with cause STALL. -/
def State.stallFault (d : Device) (s : State) : State :=
  (s.enterFault d .stall).raiseFrom .stall .motion (s.mot.get d).source.origin (some d.motor.val)

/-- R131: FAULT with cause TIMEOUT. -/
def State.timeoutFault (d : Device) (s : State) : State :=
  (s.enterFault d .timeout).raiseFrom .travelTimeout .motion (s.mot.get d).source.origin (some d.motor.val)

/-- R131: the last two rows of its table. -/
def State.motionFaultEnds (d : Device) (s : State) : State :=
  if (s.mot.get d).stall = 3 then s.stallFault d
  else if s.set.motion.tFull.get d * 15 ≤ (s.mot.get d).travel then s.timeoutFault d
  else s

/-- Step 4 (R131): the ends of motion, in the order of the table. -/
def State.motionStep4 (d : Device) (s : State) : State :=
  match (s.mot.get d).state with
  | .deploying =>
    if (s.inputs d).outSw then s.setMotion d .deployed id
    else if (s.mot.get d).target < 1000 ∧ (s.mot.get d).target ≤ s.posPm d then s.setMotion d .halted id
    else s.motionFaultEnds d
  | .stowing =>
    if (s.inputs d).inSw then s.setMotion d .stowed id
    else s.motionFaultEnds d
  | _ => s

/-- R130: a PAUSE whose rest count has reached 5 ends. -/
def State.endPause (d : Device) (p : Pending) (s : State) : State :=
  match p with
  | .inward => if s.cut then s.setMotion d .halted id else s.enterMove d .inward
  | .outward target =>
    if (s.deployChecks d).isNone then (s.setTarget d target).enterMove d .outward else s.setMotion d .halted id

/-- Step 5 (R130). -/
def State.motionStep5 (d : Device) (s : State) : State :=
  match (s.mot.get d).state with
  | .pause p => if 5 ≤ (s.mot.get d).rest then s.endPause d p else s
  | _ => s

/-- R135: the command a button press issues. -/
def buttonCommand : MotionState → Option MotionCmd
  | .stowed => some .deploy
  | .halted => some .deploy
  | .deploying => some .halt
  | .stowing => some .halt
  | .pause _ => some .halt
  | .deployed => some .stow
  | .fault _ => none
  | .latched => none

/-- Step 6 (R135, R136): the button press, then the IGN edge. -/
def State.motionStep6 (d : Device) (s : State) : State :=
  let t :=
    if (s.inputs d).button && !(s.inputsBefore d).button then
      match buttonCommand (s.mot.get d).state with
      | some c => (s.motionCommand d c .button).1
      | none => s
    else s
  if t.ignRising then
    match d with
    | .awning => t.awningIgn
    | .step => t.driveAway
  else t

/-- R126: one sweep of a motion controller, from the entry to RUN. The lamp (step 7) is read off the state. -/
def State.motionSweep (d : Device) (s : State) : State :=
  if s.isRun then
    (((((s.motionStep1 d).motionStep2 d).motionStep3 d).motionStep4 d).motionStep5 d).motionStep6 d
  else s

/-! ### Group reset (R141) -/

/-- R141: the MOTION group reset of one controller. The step light follows as for any change of state. -/
def State.motionReset (d : Device) (s : State) : State := s.recompute d

/-! ### Wind (R137) -/

/-- What the wind count reaching 3 does to the awning (R137). -/
def State.windStowAwning (s : State) : State :=
  match (s.mot.get .awning).state with
  | .stowed => s
  | .latched =>
    (s.raiseIncident .windStow .motion (some 20)).raiseIncident .latchStop .motion (some 20)
  | _ => ((s.raiseIncident .windStow .motion (some 20)).motionCommand .awning .stow .automatic).1

/-- R137: the wind count reaches 3: the lock is active with its timer at 600, whatever the awning's state. -/
def State.windReached (s : State) : State :=
  ({ s with wind := { s.wind with count := 3, lock := true, timer := 600 } } : State).windStowAwning

/-- R137: a completed wind window. -/
def State.windWindow (pulses : Nat) (s : State) : State :=
  let speed := pulses * s.set.motion.windFactor / 10
  let t : State := { s with wind := { s.wind with pulses := pulses, speed := speed } }
  if s.set.motion.windLimit < speed then
    if s.wind.count = 2 then t.windReached
    else
      { t with
        wind := { t.wind with
          count := min 3 (s.wind.count + 1)
          timer := if s.wind.lock then 600 else s.wind.timer } }
  else
    { t with
      wind := { t.wind with
        count := 0
        lock := s.wind.lock && decide (1 < s.wind.timer)
        timer := if s.wind.lock then s.wind.timer - 1 else s.wind.timer } }

end Sys2Proof.Machine
end

