-- ==== Sys2Proof/Machine/Protection.lean ====
section
/-!
DEFINITION. Channel protection (chapter 3): trips and their reports, retries, CLEAR, the LOADS reset's part and the
comparator self-test.
-/

namespace Sys2Proof.Machine

/-! ### Trips -/

/-- R32: the trip report of record 10. -/
def State.warmerTrip (s : State) : State :=
  ({ s with chg := { s.chg with warmerDrop := true, warmerReq := false } } : State).setWanted 10 0 .function

/-- R50: a trip reported to the owner of a function-driven record. -/
def State.reportTrip (r : RecNo) (s : State) : State :=
  if r = 0 then s.pumpTrip
  else if r = 1 then s.heaterLockout
  else if r = 2 then s.openDrain .channel
  else if r = 10 then s.warmerTrip
  else s

def TripCause.incident : TripCause → Incident
  | .overload => .channelTrip
  | .short => .shortCircuit

/-- R48, R49: what follows a trip by the record's retry policy. -/
def State.tripPolicy (r : RecNo) (s : State) : State :=
  if (s.cfg r).policy = .auto then
    if (s.row r).retryCount < 3 then s.modRec r fun x => { x with prot := .retryWait, retryTimer := 100 }
    else s.raiseIncident .retryExhausted .channelProtection (some r.val)
  else s

/-- R47: a record trips. -/
def State.trip (r : RecNo) (c : TripCause) (s : State) : State :=
  let t := (s.modRec r fun x => { x with prot := .tripped, granted := 0 }).raise .trip
  ((t.raiseIncident c.incident .channelProtection (some r.val)).reportTrip r).tripPolicy r

/-- R45: the bucket after a sweep with measured current `m` and rated current `rated`. -/
def nextBucket (bucket m rated : Nat) : Nat :=
  if rated * 5 / 4 < m then min 65535 (bucket + (m - rated)) else bucket - rated / 8

/-- R46: the comparator's threshold. -/
def shortThreshold (rated : Nat) : Nat := min (4 * rated) 3000

/-- R46, R53: the comparator of the channel is under test and disconnected from its trip path. -/
def State.underTest (s : State) (r : RecNo) : Bool :=
  match s.test.seq with
  | .running slot .testing => slot.val == r.val
  | _ => false

/-- R45: the bucket of a driven NORMAL record, and the trip it may bring. -/
def State.bucketSweep (r : RecNo) (m : Nat) (s : State) : State :=
  if (s.row r).prot = .normal ∧ s.driveOn r = true then
    let b := nextBucket (s.row r).bucket m (s.cfg r).rated
    let t := s.modRec r fun x => { x with bucket := b }
    if (s.cfg r).rated * 20 < b then t.trip r .overload else t
  else s

/-! ### Retries -/

/-- R48: the retry timer reaches 0. -/
def State.retryDone (r : RecNo) (s : State) : State :=
  (s.modRec r fun x =>
    { x with
      prot := .normal
      bucket := 0
      retryTimer := 0
      retryCount := min 3 (x.retryCount + 1)
      quiet := 0
      join := true }).raise .trip

/-- R48: the quiet timer of a NORMAL record at one sweep. -/
def LoadRec.quietSweep (x : LoadRec) : LoadRec :=
  if x.prot = .normal then
    { x with
      quiet := min 600 (x.quiet + 1)
      retryCount := if 600 ≤ x.quiet + 1 then 0 else x.retryCount }
  else x

/-- R45, R48: one channel at one sweep completion. A record that trips at this sweep starts its wait after it. -/
def State.channelSweep (r : RecNo) (s : State) : State :=
  if (s.row r).prot = .retryWait then
    let n := (s.row r).retryTimer - 1
    if n = 0 then s.retryDone r else s.modRec r fun x => { x with retryTimer := n }
  else (s.modRec r LoadRec.quietSweep).bucketSweep r (tget s.mu.currents r)

/-- R45, R48: channel protection at one sweep completion; it holds its reset values while RST_N is low (R170)
(DEDUCED, log 23). -/
def State.protectionSweep (s : State) : State :=
  if s.awake then channelRecs.foldl (fun t r => t.channelSweep r) s else s

/-! ### CLEAR and the LOADS reset -/

/-- R49, R54: a record returned to NORMAL with its counters at 0; it is a joiner at the next pass (R80). -/
def LoadRec.restored (x : LoadRec) : LoadRec :=
  { x with prot := .normal, bucket := 0, retryCount := 0, retryTimer := 0, quiet := 0, join := true }

/-- R49: a CLEAR naming a load record. -/
def State.clearChannel (r : RecNo) (s : State) : State :=
  match (s.row r).prot with
  | .tripped => (s.modRec r LoadRec.restored).raise .trip
  | .retryWait => (s.modRec r LoadRec.restored).raise .trip
  | .normal => s.modRec r fun x => { x with retryCount := 0, quiet := 0 }
  | .unprotected => s

/-- R51: one record at a LOADS group reset. -/
def LoadRec.loadsReset (x : LoadRec) : LoadRec :=
  { x with
    prot := if x.prot = .tripped ∨ x.prot = .retryWait then .normal else x.prot
    join := x.join || x.prot == .tripped || x.prot == .retryWait
    bucket := 0
    retryCount := 0
    retryTimer := 0
    quiet := 0 }

/-- R51: channel protection's part of the LOADS group reset. -/
def State.protectionReset (s : State) : State :=
  let changed := channelRecs.any fun r => (s.row r).prot == .tripped || (s.row r).prot == .retryWait
  (channelRecs.foldl (fun t r => t.modRec r LoadRec.loadsReset) s).raiseIf changed .trip

/-! ### Self-test -/

/-- R53: what a slot does, from the record of the slot as it starts. -/
def State.slotMode (s : State) (slot : Fin 13) : SlotMode :=
  match recOf slot.val with
  | some r =>
    if slot.val < 12 then
      if s.driveOn r || (s.row r).prot == .tripped || (s.row r).prot == .retryWait then .skipping else .testing
    else .testing
  | none => .testing

/-- R53: a slot starts. Slot 12 makes the sweep in progress one whose hard report is discarded (R3). -/
def State.startSlot (slot : Fin 13) (s : State) : State :=
  { s with
    test := { s.test with seq := .running slot (s.slotMode slot), discard := s.test.discard || slot.val == 12 } }

/-- R53, R54: the result of a slot. -/
def slotResult (mode : SlotMode) (answered : Bool) : TestResult :=
  match mode with
  | .testing => if answered then .pass else .fail
  | .skipping => .skipped
  | .aborted => .aborted

/-- R54, R50: FAIL of a switched channel. SELFTEST_FAIL is raised before the owner of record 1 or 2 hears of the entry, as
R47 raises a trip's incident before its report (DEDUCED, log 35). -/
def State.channelFail (r : RecNo) (s : State) : State :=
  let fails := fun (t : State) => t.raiseIncident .selftestFail .channelProtection (some r.val)
  if (s.row r).prot = .unprotected then fails s
  else
    let t := fails ((s.modRec r fun x => { x with prot := .unprotected, retryTimer := 0 }).raise .trip)
    if r = 1 ∨ r = 2 then t.reportTrip r else t

/-- R54: a result acts on the switched channel of its slot. -/
def State.channelResult (r : RecNo) (res : TestResult) (s : State) : State :=
  match res with
  | .pass => if (s.row r).prot = .unprotected then (s.modRec r LoadRec.restored).raise .trip else s
  | .fail => s.channelFail r
  | _ => s

/-- R15, R54: a result acts on the hard path. -/
def State.bankResult (res : TestResult) (s : State) : State :=
  match res with
  | .pass => { s with acct := { s.acct with hardPath := .armed } }
  | .fail =>
    ({ s with acct := { s.acct with hardPath := .lost } } : State).raiseIncident .selftestFail .channelProtection none
  | _ => s

/-- R53, R54: the present slot ends, its result acts, and the next slot starts or the sequencer becomes IDLE. -/
def State.slotEnd (answered : Bool) (s : State) : State :=
  match s.test.seq with
  | .idle => s
  | .running slot mode =>
    let res := slotResult mode answered
    let t : State := { s with test := { s.test with results := tset s.test.results slot res } }
    if h : slot.val < 12 then
      (t.channelResult ⟨slot.val, by omega⟩ res).startSlot ⟨slot.val + 1, by omega⟩
    else
      (({ t with test := { t.test with seq := .idle } } : State).bankResult res).raise .energy

end Sys2Proof.Machine
end

