-- ==== Sys2Proof/Machine/Account.lean ====
section
/-!
DEFINITION. The energy account (chapter 1): the sweep's arithmetic as functions of the account alone, then their
publication to the other blocks.
-/

namespace Sys2Proof.Machine

/-! ### Arithmetic of the account -/

/-- C_nom in mA.s. -/
def AcctSettings.cNomMas (c : AcctSettings) : Nat := c.cNom * 3600000

/-- R7: k of a bank temperature. -/
def kCapacity (t : Int) : Nat :=
  if 40 ≤ t then 256 else if 20 ≤ t then 246 else if 0 ≤ t then 230 else if -20 ≤ t then 205 else if -40 ≤ t then 179
  else 154

/-- R18: k_dis of a bank temperature. -/
def kDischarge (t : Int) : Nat := if 0 ≤ t then 256 else if -20 ≤ t then 218 else if -40 ≤ t then 179 else 128

/-- R14. -/
def vCut : Chemistry → Nat
  | .lead => 10800
  | .lithium => 11600

/-- R14. -/
def vHard : Chemistry → Nat
  | .lead => 10200
  | .lithium => 10800

/-- R6: the throughput saturates here. -/
def throughputMax : Nat := 4294967295

/-- R5: the charge increment of a sweep. -/
def chargeIncrement (eta : Nat) (i : Int) : Int := if 0 < i then (i * eta) / 256 else i

/-- R5: Q after an increment. -/
def addCharge (full q : Nat) (inc : Int) : Nat := (clampInt 0 full ((q : Int) + inc)).toNat

/-- R5, R6: step 1. -/
def Account.step1 (i : Int) (a : Account) : Account :=
  let inc := chargeIncrement a.copy.eta i
  { a with
    q := addCharge a.copy.cNomMas a.q inc
    throughput := if inc < 0 then min throughputMax (a.throughput + (-inc).toNat) else a.throughput }

/-- R9: the full condition. -/
def Account.fullCondition (i : Int) (v : Nat) (a : Account) : Bool :=
  decide (a.copy.vFull ≤ v) && decide (0 ≤ i) && decide (i < (a.copy.cNom * 2 : Nat))

/-- R9: the completion comes at the count that reaches 1200. -/
def Account.completes (i : Int) (v : Nat) (a : Account) : Bool := a.fullCondition i v && a.fullCounter == 1199

/-- R9: what a completion sets. -/
def Account.complete (a : Account) : Account :=
  { a with q := a.copy.cNomMas, sync := .synced, throughput := 0, fullCounter := 1200 }

/-- R9: step 2. -/
def Account.step2 (i : Int) (v : Nat) (a : Account) : Account :=
  if a.completes i v then a.complete
  else { a with fullCounter := if a.fullCondition i v then min 1200 (a.fullCounter + 1) else 0 }

/-- R10: the drift check. -/
def Account.drifts (a : Account) : Bool :=
  (a.sync == .synced || a.sync == .manual) &&
    (decide (10 * a.copy.cNomMas < a.throughput) || a.throughput == throughputMax)

/-- R10: step 3. -/
def Account.step3 (a : Account) : Account := if a.drifts then { a with sync := .drifting } else a

/-- R8. -/
def socOf (q cEff : Nat) : Nat := min 1000 (q * 1000 / cEff)

/-- R7, R8: step 4. -/
def Account.step4 (t : Int) (a : Account) : Account :=
  let cEff := a.copy.cNomMas * kCapacity t / 256
  { a with cEff := cEff, socPm := socOf a.q cEff }

/-- R12. -/
def effReserveOf (sync : SyncState) (reservePm : Nat) : Nat :=
  match sync with
  | .synced => reservePm
  | .manual => reservePm
  | .unsynced => min 700 (reservePm + 100)
  | .drifting => min 700 (reservePm + 100)

/-- R12: step 5. -/
def Account.step5 (a : Account) : Account := { a with effReserve := effReserveOf a.sync a.copy.reservePm }

/-- R13: the choice between NORMAL and RESERVE. -/
def Account.choose (a : Account) : BankState := if a.socPm ≤ a.effReserve then .reserve else .normal

/-- R16: what entry to CUT sets in the account. -/
def Account.cutState (a : Account) : Account :=
  { a with bank := .cut, cutCounter := 0, recoveryCounter := 0, iCeiling := 0 }

/-- R17: what leaving CUT sets in the account. -/
def Account.recovered (a : Account) : Account := { a with recoveryCounter := 0, bank := a.choose }

/-- R14, R15: the sweep enters CUT, by the 50th count or by the hard path. -/
def Account.entersCut (v : Nat) (below : Bool) (a : Account) : Bool :=
  (decide (v < vCut a.copy.chemistry) && decide (50 ≤ a.cutCounter + 1)) || (a.hardPath == .armed && below)

/-- R13 to R17: step 6. -/
def Account.step6 (v iIn : Nat) (below : Bool) (a : Account) : Account :=
  if a.bank = .cut then
    if vCut a.copy.chemistry + 500 < v ∧ 0 < iIn then
      if 100 ≤ a.recoveryCounter + 1 then a.recovered else { a with recoveryCounter := a.recoveryCounter + 1 }
    else { a with recoveryCounter := 0 }
  else if a.entersCut v below then a.cutState
  else
    { a with
      cutCounter := if v < vCut a.copy.chemistry then a.cutCounter + 1 else 0
      bank := a.choose }

/-- R18. -/
def ceilingOf (iMax : Nat) (t : Int) : Nat := iMax * kDischarge t / 256

/-- R18: step 7. -/
def Account.step7 (t : Int) (a : Account) : Account :=
  { a with iCeiling := if a.bank = .cut then 0 else ceilingOf a.copy.iMax t }

/-- R4: the account after steps 1 to 7 of a sweep. -/
def Account.sweep (i : Int) (v iIn : Nat) (t : Int) (below : Bool) (a : Account) : Account :=
  ((((((a.step1 i).step2 i v).step3).step4 t).step5).step6 v iIn below).step7 t

/-! ### Publication -/

/-- R16, R40 to R42: the publication of CUT turns the drives off and reaches the climate and motion controllers. -/
def State.publishCut (s : State) : State := ((s.climateCut).motionCut .awning).motionCut .step

/-- R19: the account's new values are published: ENERGY events for a change of sync state or protection state, the
drives and the reactions at CUT, and the condition BANK_RESERVE (R74). BANK_CUT is raised on entry to CUT (R16),
before the publication (DEDUCED, log 11). -/
def State.publishAccount (a : Account) (s : State) : State :=
  let old := s.acct
  let enters := a.bank == .cut && old.bank != .cut
  let s1 := if enters then s.raiseIncident .bankCut .energyAccount none else s
  let put := fun (u : State) => { u with acct := a }
  let s2 := if (old.bank == .cut) == (a.bank == .cut) then put s1 else s1.withDrives put
  let s2 := s2.raiseIf (old.sync != a.sync || old.bank != a.bank) .energy
  let s3 := if enters then s2.publishCut else s2
  s3.evalConditionIf ((old.bank == .reserve) != (a.bank == .reserve)) .bankReserve

/-- R25: a completion of full detection is handed to charge control, once it has its settings (R34). -/
def State.handCompletion (s : State) : State :=
  if s.isRun && s.acct.copy.chemistry == .lithium then { s with chg := { s.chg with absorb := true } } else s

/-- R4: the account processes one sweep. Before the first settings load since power-on it processes none (R20). A
completion of full detection is handed over after the new values are published, which is one of the orders of R25
(DESIGN CHOICE, log 11). -/
def State.accountSweep (s : State) : State :=
  if s.acct.loaded then
    let m := s.mu
    let below := decide (m.minV < vHard s.acct.copy.chemistry) && !s.test.discard
    let done := (s.acct.step1 m.shunt).completes m.shunt m.bankV
    let t := s.publishAccount (s.acct.sweep m.shunt m.bankV s.chg.iIn m.tBank below)
    if done then t.handCompletion else t
  else s

/-! ### SET_CHARGE and changes of the settings -/

/-- R5, R11: an accepted SET_CHARGE, as the account sees it; Q stays within C_nom (DEDUCED, log 26). -/
def Account.setCharge (pm : Nat) (a : Account) : Account :=
  let q := min a.copy.cNomMas (a.cEff * pm / 1000)
  let b : Account :=
    { a with q := q, sync := .manual, throughput := 0, fullCounter := 0, socPm := socOf q a.cEff }
  let c := b.step5
  if c.bank = .cut then c else { c with bank := c.choose }

/-- R2: a change of C_nom reaches the copy. -/
def Account.capacityChange (cNom : Nat) (a : Account) : Account :=
  { a with
    copy := { a.copy with cNom := cNom }
    q := min a.q (cNom * 3600000)
    sync := .unsynced
    throughput := 0
    fullCounter := 0 }

/-- R2: a change of chemistry reaches the copy. -/
def Account.chemistryChange (c : Chemistry) (a : Account) : Account :=
  { a with
    copy := { a.copy with chemistry := c, eta := defaultEta c, vFull := defaultVFull c }
    fullCounter := 0
    cutCounter := 0
    recoveryCounter := 0 }

/-- R1, R2: the account takes live settings that differ from its copy. -/
def Account.takeSettings (live : AcctSettings) (a : Account) : Account :=
  let a1 := if live.cNom = a.copy.cNom then a else a.capacityChange live.cNom
  let a2 := if live.chemistry = a.copy.chemistry then a1 else a1.chemistryChange live.chemistry
  { a2 with copy := live }

/-- R1, R2, R25: changed live settings reach the account: an ENERGY event where the sync state changes, and the
absorb latch cleared by a change to LEAD. -/
def State.accountSettings (s : State) : State :=
  let a := s.acct.takeSettings s.set.acct
  let toLead := a.copy.chemistry == .lead && s.acct.copy.chemistry == .lithium
  ({ s with
      acct := a
      chg := { s.chg with absorb := s.chg.absorb && !toLead } } : State).raiseIf (s.acct.sync != a.sync) .energy

end Sys2Proof.Machine
end

