-- ==== Sys2Proof/Machine/Charge.lean ====
section
/-!
DEFINITION. Charge control (chapter 2): the charge permission, the source enables, the warmer request.
-/

namespace Sys2Proof.Machine

/-- R23. -/
def hotCondition (prev : Permission) (t : Int) : Bool :=
  if prev = .hotHold then decide (100 ≤ t) else decide (110 < t)

/-- R24. -/
def coldCondition (chem : Chemistry) (prev : Permission) (t : Int) : Bool :=
  match chem with
  | .lead => false
  | .lithium => if prev = .coldHold then decide (t < 4) else decide (t < 0)

/-- R22: the permission chosen afresh. -/
def choosePermission (chem : Chemistry) (prev : Permission) (absorb : Bool) (t : Int) : Permission :=
  if hotCondition prev t then .hotHold
  else if coldCondition chem prev t then .coldHold
  else if absorb then .absorbHold
  else .allowed

/-- R26: the incident of an entered permission. -/
def permissionIncident : Permission → Option Incident
  | .coldHold => some .coldBlock
  | .hotHold => some .bankHot
  | _ => none

/-- R25: step 1. -/
def State.chargeStep1 (s : State) : State :=
  { s with chg := { s.chg with absorb := s.chg.absorb && !(decide (s.acct.socPm < s.set.charge.holdRelease)) } }

/-- R22 to R26: step 2. -/
def State.chargeStep2 (s : State) : State :=
  let p := choosePermission s.acct.copy.chemistry s.chg.permission s.chg.absorb s.mu.tBank
  if p = s.chg.permission then s
  else
    let t := ({ s with chg := { s.chg with permission := p } } : State).raise .energy
    match permissionIncident p with
    | some k => t.raiseIncident k .chargeControl none
    | none => t

/-- R27: step 3. -/
def State.chargeStep3 (s : State) : State :=
  { s with chg := { s.chg with altTimer := if s.mu.engine then min 600 (s.chg.altTimer + 1) else 0 } }

/-- R28: the three enables of a state. ALT_EN needs ENGINE on, which with alt_delay 0 is the rule's sentence and not its
table's term (DEDUCED, log 32). -/
def State.enables (s : State) : Bool × Bool × Bool :=
  let ok := s.chg.permission == .allowed
  (ok && s.mu.shore, ok && s.set.charge.solarEnable,
    ok && s.set.charge.altEnable && s.mu.engine && decide (s.set.charge.altDelay * 10 ≤ s.chg.altTimer))

/-- R30: at least one of the three enables is on. -/
def Charge.anyOn (c : Charge) : Bool := c.shoreEn || c.solarEn || c.altEn

/-- R28, R29: step 4. -/
def State.chargeStep4 (s : State) : State :=
  let e := s.enables
  let changed := e != (s.chg.shoreEn, s.chg.solarEn, s.chg.altEn)
  ({ s with chg := { s.chg with shoreEn := e.1, solarEn := e.2.1, altEn := e.2.2 } } : State).raiseIf changed .energy

/-- R32: the drop stays while record 10 is TRIPPED or RETRY_WAIT. -/
def State.dropStays (s : State) : Bool :=
  s.chg.warmerDrop && ((s.row 10).prot == .tripped || (s.row 10).prot == .retryWait)

/-- R31, R32: step 5. -/
def State.chargeStep5 (s : State) : State :=
  let drop := s.dropStays
  let req := s.chg.permission == .coldHold && (s.mu.shore || s.mu.engine) && !drop
  ({ s with chg := { s.chg with warmerDrop := drop, warmerReq := req } } : State).setWanted 10
    (if req then 1000 else 0) .function

/-- R22: one sweep of charge control; before the settings load it processes none (R34). -/
def State.chargeSweep (s : State) : State :=
  if s.isRun then s.chargeStep1.chargeStep2.chargeStep3.chargeStep4.chargeStep5 else s

end Sys2Proof.Machine
end

