-- ==== Sys2Proof/Machine/Allocator.lean ====
section
/-!
DEFINITION. The allocator (chapter 5): the pool, the sharing among the classes, the fit within each class, and what a
pass writes and hands on.
-/

namespace Sys2Proof.Machine

/-! ### Reading the records (R43, R80) -/

/-- R80: available for the pass. -/
def State.available (s : State) (r : RecNo) : Bool := recKind r == .motor || (s.row r).prot == .normal

/-- R43: the estimated current of a record. -/
def State.estimate (s : State) (r : RecNo) : Nat :=
  if s.available r then
    let x := s.row r
    let c := s.cfg r
    if r = 1 then
      if s.clim.heater = .waitBudget ∨ s.clim.heater = .start then c.surge else if 0 < x.ordered then c.rated else 0
    else if recKind r = .dimmed then c.rated * x.ordered / 1000
    else if 0 < x.ordered then c.rated else 0
  else 0

/-- R80: a member of a class: available, of that effective class, with an ordered level above 0. -/
def State.isMember (s : State) (cls : Nat) (r : RecNo) : Bool :=
  s.available r && s.effClass r == cls && decide (0 < (s.row r).ordered)

/-- The members of a class in ascending record number. -/
def State.members (s : State) (cls : Nat) : List RecNo := allRecs.filter (s.isMember cls)

/-- Sum of the estimates of some records. -/
def State.estSum (s : State) (rs : List RecNo) : Nat := (rs.map s.estimate).sum

def isDimmed (r : RecNo) : Bool := recKind r == .dimmed

/-- The heater is in START or RUN, as read at step 1 (R86). -/
def State.heaterBusy (s : State) : Bool := s.clim.heater == .start || s.clim.heater == .run

/-! ### The pool (R81, R82) -/

/-- R81: the class 3 demand. -/
def State.demand3 (s : State) : Nat := s.estSum (s.members 3)

/-- R82: the taper. -/
def taperOf (soc reserve : Nat) : Nat :=
  if reserve + 150 ≤ soc then 1000 else if soc ≤ reserve then 0 else (soc - reserve) * 1000 / 150

/-- R82: the bank headroom. -/
def State.headroom (s : State) : Nat := s.acct.iCeiling - s.demand3

/-- R81, R82: the pool of the pass. -/
def State.poolOf (s : State) : Nat :=
  if s.cut then 0 else s.headroom * taperOf s.acct.socPm s.acct.effReserve / 1000 + s.chg.iIn

/-- R83: the demand of a class. -/
def State.classDemand (s : State) (c : LoadClass) : Nat := s.estSum (s.members c.no)

/-! ### Sharing (R84) -/

/-- The grants of the classes of `u` set to their shares, the remainder to the first of the list, which is the
highest-numbered class left (R84.2c). -/
def shareOut (r w : Nat) (weights : PerClass Nat) (u : List LoadClass) (g : PerClass Nat) : PerClass Nat :=
  let share := fun c => r * weights.get c / w
  let g1 := u.foldl (fun g c => g.set c (share c)) g
  match u with
  | [] => g1
  | top :: _ => g1.set top (share top + (r - (u.map share).sum))

/-- R84: the rounds of the water-filling; each fixes at least one class, so three rounds end it. -/
def waterFill (demand weights : PerClass Nat) : Nat → Nat → List LoadClass → PerClass Nat → PerClass Nat
  | 0, _, _, g => g
  | n + 1, r, u, g =>
    let w := (u.map weights.get).sum
    let fits := u.filter fun c => decide (demand.get c ≤ r * weights.get c / w)
    if u.isEmpty then g
    else if fits.isEmpty then shareOut r w weights u g
    else
      waterFill demand weights n (r - (fits.map demand.get).sum) (u.filter fun c => !(fits.contains c))
        (fits.foldl (fun g c => g.set c (demand.get c)) g)

/-- R84: the class grants. -/
def classGrants (pool : Nat) (demand weights : PerClass Nat) : PerClass Nat :=
  if demand.c2 + demand.c1 + demand.c0 ≤ pool then demand
  else
    waterFill demand weights 4 pool (([.c2, .c1, .c0] : List LoadClass).filter fun c => decide (0 < demand.get c))
      { c0 := 0, c1 := 0, c2 := 0 }

/-! ### The fit of one class (R85 to R88) -/

/-- A class while it is fitted: the sums of the class load, the dim factor, the records that are GRANTED and those
that are SHED, and whether record 1 is handed over. -/
structure Fit where
  ds : Nat
  dd : Nat
  dim : Nat
  granted : List RecNo
  shed : List RecNo
  handover : Bool
  deriving DecidableEq, Repr

/-- R85: the class load. -/
def Fit.load (f : Fit) : Nat := f.ds + f.dd * f.dim / 1000

/-- R85: one dimming step down. -/
def dimDown : Nat → Nat
  | 1000 => 750
  | 750 => 500
  | 500 => 250
  | d => d

/-- R88: one dimming step up. -/
def dimUp (d : Nat) : Nat := if d < 250 then 250 else if d < 500 then 500 else if d < 750 then 750 else 1000

/-- R85 step 1, at most three steps from 1000. -/
def Fit.dimming (g : Nat) : Nat → Fit → Fit
  | 0, f => f
  | n + 1, f =>
    if g < f.load ∧ 0 < f.dd ∧ 250 < f.dim then Fit.dimming g n { f with dim := dimDown f.dim } else f

/-- R85: a member that is GRANTED and not a joiner. -/
def State.steady (s : State) (r : RecNo) : Bool := (s.row r).alloc == .granted && !(s.row r).join

/-- The class as the pass finds it: its steady members make the load, its other members that are not joiners are
SHED. -/
def State.fitStart (s : State) (c : LoadClass) : Fit :=
  let m := s.members c.no
  let st := m.filter s.steady
  { ds := s.estSum (st.filter fun r => !(isDimmed r))
    dd := s.estSum (st.filter isDimmed)
    dim := (s.alloc.cls.get c).dim
    granted := st
    shed := m.filter fun r => !(s.steady r) && !(s.row r).join
    handover := false }

/-- R85 step 2, R86: one record at the shedding step. -/
def State.shedOne (s : State) (g : Nat) (f : Fit) (r : RecNo) : Fit :=
  if g < f.load then
    let f1 := { f with ds := f.ds - s.estimate r, granted := f.granted.erase r }
    if r = 1 ∧ s.heaterBusy = true then { f1 with handover := true } else { f1 with shed := r :: f1.shed }
  else f

/-- R85 step 2: the GRANTED switched members, the highest record number first. -/
def State.shedding (s : State) (g : Nat) (f : Fit) : Fit :=
  (f.granted.filter fun r => !(isDimmed r)).reverse.foldl (s.shedOne g) f

/-- R85 step 3. -/
def Fit.darken (g : Nat) (f : Fit) : Fit := if g < f.load then { f with dim := 0 } else f

/-- R87, R86: one joiner. -/
def State.joinOne (s : State) (g : Nat) (f : Fit) (r : RecNo) : Fit :=
  let f1 :=
    if isDimmed r then { f with dd := f.dd + s.estimate r, granted := r :: f.granted }
    else { f with ds := f.ds + s.estimate r, granted := r :: f.granted }
  if f1.load ≤ g then f1
  else if r = 1 ∧ s.heaterBusy = true then { f with handover := true }
  else { f with shed := r :: f.shed }

/-- R87: the joiners in ascending record number. -/
def State.joining (s : State) (c : LoadClass) (g : Nat) (f : Fit) : Fit :=
  ((s.members c.no).filter fun r => (s.row r).join).foldl (s.joinOne g) f

/-- R81: a pass with the bank CUT: every switched member is SHED, a class with GRANTED dimmed members is darkened, a
dimmed joiner is taken by R87 (DEDUCED, log 21). -/
def State.fitCut (s : State) (c : LoadClass) : Fit :=
  let m := s.members c.no
  let f := s.fitStart c
  let lights := f.granted.filter isDimmed
  let f1 : Fit :=
    { f with
      ds := 0
      dim := if lights.isEmpty then f.dim else 0
      granted := lights
      shed := m.filter (fun r => !(isDimmed r)) ++ f.shed.filter isDimmed }
  (m.filter fun r => isDimmed r && (s.row r).join).foldl (s.joinOne 0) f1

/-- R85 to R87: the class fitted to its grant, before restoration. -/
def State.fitClass (s : State) (c : LoadClass) (g : Nat) : Fit :=
  s.joining c g (Fit.darken g (s.shedding g ((s.fitStart c).dimming g 3)))

/-- R88: the restore candidate. -/
def Fit.candidate (f : Fit) : Candidate :=
  if f.dim < 1000 then .dim (dimUp f.dim)
  else match allRecs.find? fun r => f.shed.contains r with
    | some r => .record r
    | none => .none

/-- R88: the class with its candidate restored. -/
def State.fitWith (s : State) (f : Fit) : Candidate → Fit
  | .none => f
  | .dim d => { f with dim := d }
  | .record r =>
    if isDimmed r then { f with dd := f.dd + s.estimate r, granted := r :: f.granted, shed := f.shed.filter (· != r) }
    else { f with ds := f.ds + s.estimate r, granted := r :: f.granted, shed := f.shed.filter (· != r) }

/-- R88: the restore limit. -/
def restoreLimit (g d : Nat) : Nat := if d ≤ g then g else g * 950 / 1000

/-- R88: candidate, counter and restoration of one class: the fit after it and the class's new state. -/
def State.restoration (s : State) (c : LoadClass) (g d : Nat) (f : Fit) : Fit × ClassAlloc :=
  let old := s.alloc.cls.get c
  let cand := f.candidate
  let base := if cand = old.cand then old.counter else 0
  let next := s.fitWith f cand
  if cand ≠ .none ∧ next.load ≤ restoreLimit g d then
    if s.set.alloc.restoreDelay ≤ base + 1 then
      (next, { demand := d, grant := g, dim := next.dim, cand := cand, counter := 0 })
    else (f, { demand := d, grant := g, dim := f.dim, cand := cand, counter := base + 1 })
  else (f, { demand := d, grant := g, dim := f.dim, cand := cand, counter := 0 })

/-- Steps 4 to 6 of a pass for one class (R79). -/
def State.passClass (s : State) (grants : PerClass Nat) (c : LoadClass) : Fit × ClassAlloc :=
  let d := s.classDemand c
  let g := grants.get c
  if s.cut then
    let f := s.fitCut c
    (f, { demand := d, grant := g, dim := f.dim, cand := .none, counter := 0 })
  else s.restoration c g d (s.fitClass c g)

/-! ### The pass (R79) -/

/-- What steps 1 to 6 of a pass work out. -/
structure PassResult where
  fits : PerClass Fit
  alloc : Alloc
  deriving DecidableEq, Repr

def State.demands (s : State) : PerClass Nat :=
  { c0 := s.classDemand .c0, c1 := s.classDemand .c1, c2 := s.classDemand .c2 }

/-- The grants of step 5. -/
def State.grants (s : State) : PerClass Nat := classGrants s.poolOf s.demands s.set.alloc.weights

/-- Steps 1 to 6. -/
def State.passResult (s : State) : PassResult :=
  let g := s.grants
  let r0 := s.passClass g .c0
  let r1 := s.passClass g .c1
  let r2 := s.passClass g .c2
  { fits := { c0 := r0.1, c1 := r1.1, c2 := r2.1 }
    alloc :=
      { pool := s.poolOf, hBank := s.headroom, taper := taperOf s.acct.socPm s.acct.effReserve, d3 := s.demand3
        cls := { c0 := r0.2, c1 := r1.2, c2 := r2.2 } } }

/-- R89: what step 7 writes for one record of the state `s` the pass has read. -/
def State.passRow (s : State) (p : PassResult) (r : RecNo) (x : LoadRec) : LoadRec :=
  let y := { x with join := false }
  if s.available r then
    if x.ordered = 0 then { y with alloc := .granted, granted := 0 }
    else match classOf (s.effClass r) with
      | none =>
        if s.cut then { y with alloc := .shed, granted := 0 } else { y with alloc := .granted, granted := x.ordered }
      | some c =>
        let f := p.fits.get c
        if f.shed.contains r then { y with alloc := .shed, granted := 0 }
        else if f.granted.contains r then
          { y with
            alloc := .granted
            granted := if isDimmed r then x.ordered * (p.alloc.cls.get c).dim / 1000 else 1000 }
        else { y with alloc := .granted, granted := x.ordered }
  else { y with granted := 0 }

/-- R89: record 1 has become GRANTED at this pass while the heater waits for its budget. -/
def State.grantsHeater (s t : State) : Bool :=
  s.clim.heater == .waitBudget && s.isMember (s.effClass 1) 1 && (t.row 1).alloc == .granted &&
    (t.row 1).granted == 1000 && ((s.row 1).join || (s.row 1).alloc == .shed || s.effClass 1 == 3)

/-- R86: record 1 is handed over, or is SHED with the bank CUT. -/
def State.shedsHeater (s : State) (p : PassResult) : Bool :=
  match classOf (s.effClass 1) with
  | some c => (p.fits.get c).handover || (s.cut && s.isMember c.no 1 && s.heaterBusy)
  | none => false

/-- R91: some allocation state or dim factor differs. -/
def allocChanged (s t : State) : Bool :=
  (allRecs.any fun r => (s.row r).alloc != (t.row r).alloc) ||
    (([.c0, .c1, .c2] : List LoadClass).any fun c => (s.alloc.cls.get c).dim != (t.alloc.cls.get c).dim)

/-- Step 7 without its notices: allocation states and granted levels, the allocator's own state, and the dim factors
handed to the lighting controller (R89). The retained drain drive ends with the first pass (R40, R105), whose
write of record 2 is then a change of its drive as any record's (R53). -/
def State.writePass (p : PassResult) (s : State) : State :=
  let s0 : State := { s with clim := { s.clim with heldDrive := none } }
  let w := allRecs.foldl (fun t r => t.modRec r (s.passRow p r)) s0
  { w with
    alloc := p.alloc
    inForce := { w.inForce with cls := s.set.recs.map (·.cls) }
    light :=
      { w.light with
        dims := { c0 := p.alloc.cls.c0.dim, c1 := p.alloc.cls.c1.dim, c2 := p.alloc.cls.c2.dim } } }

/-- R79: one allocation pass; none is run before RUN. -/
def State.allocPass (s : State) : State :=
  if s.isRun then
    let p := s.passResult
    let w := s.writePass p
    let t := if s.grantsHeater w then w.grantNotice else w
    let u := if s.shedsHeater p then t.shedNotice else t
    u.raiseIf (allocChanged s w) .grant
  else s

/-! ### RESTORE on its own (R88) -/

/-- The class as the records stand now, with the dim factor in force. -/
def State.fitNow (s : State) (c : LoadClass) : Fit :=
  let m := s.members c.no
  let on := m.filter fun r => (s.row r).alloc == .granted && !(s.row r).join
  { ds := s.estSum (on.filter fun r => !(isDimmed r))
    dd := s.estSum (on.filter isDimmed)
    dim := (s.alloc.cls.get c).dim
    granted := on
    shed := m.filter fun r => (s.row r).alloc == .shed && !(s.row r).join
    handover := false }

/-- R88, R89: the candidate of a class is restored: the dim factor takes the higher step and the class's lights
their new granted levels, or the record becomes GRANTED. Record 1 coming back is the grant notice. Either way the granted
lights of the class take the levels that a pass writes (R89), an increase that waits for the pass among them (DEDUCED,
log 21). -/
def State.restoreNow (c : LoadClass) (s : State) : State :=
  let old := s.alloc.cls.get c
  let f := s.fitWith (s.fitNow c) old.cand
  let w := f.granted.foldl
    (fun t r => t.modRec r fun x =>
      { x with alloc := .granted, granted := if isDimmed r then x.ordered * f.dim / 1000 else x.granted }) s
  let v := match old.cand with
    | .record r => w.modRec r fun x =>
      { x with alloc := .granted, granted := if isDimmed r then x.ordered * f.dim / 1000 else 1000 }
    | _ => w
  let u : State :=
    { v with
      alloc := { v.alloc with cls := v.alloc.cls.set c { old with dim := f.dim, counter := 0 } }
      light := { v.light with dims := v.light.dims.set c f.dim } }
  (if old.cand = .record 1 then u.grantNotice else u).raise .grant

/-- R88: the candidate is still the class's own, it fits the restore limit of the last pass, and one more count
reaches restore_delay (DEDUCED, log 21). -/
def State.restoreDue (s : State) (c : LoadClass) : Bool :=
  let old := s.alloc.cls.get c
  let f := s.fitNow c
  s.isRun && !s.cut && old.cand != .none && old.cand == f.candidate &&
    decide ((s.fitWith f old.cand).load ≤ restoreLimit old.grant old.demand) &&
    decide (s.set.alloc.restoreDelay ≤ old.counter + 1)

/-! ### LOADS group reset (R93) -/

/-- R93: the allocator's part of the LOADS group reset. -/
def State.allocReset (s : State) : State :=
  let one := fun (x : ClassAlloc) => { x with dim := 1000, cand := .none, counter := 0 }
  let t := allRecs.foldl (fun t r => t.modRec r fun x => { x with alloc := .granted, join := true }) s
  let u : State :=
    { t with alloc := { t.alloc with cls := { c0 := one t.alloc.cls.c0, c1 := one t.alloc.cls.c1, c2 := one t.alloc.cls.c2 } } }
  u.raiseIf (allocChanged s u) .grant

end Sys2Proof.Machine
end

