-- ==== Sys2Proof/Machine/Lighting.lean ====
section
/-!
DEFINITION. The lighting controller (chapter 9): fades, the door, the move of the step light.
-/

namespace Sys2Proof.Machine

/-- R143: an output level moved toward its target by at most the fade rate. -/
def fadeTo (out target rate : Nat) : Nat :=
  if out < target then min target (out + rate) else max target (out - rate)

/-- R143: the fade of one channel. Where the target is not the granted level the output level is 0 already (R41). -/
def State.fadeChannel (n : Fin 8) (s : State) : State :=
  if s.lit (lightRec n) then
    { s with
      light := { s.light with
        out := tset s.light.out n
          (fadeTo (tget s.light.out n) (s.row (lightRec n)).granted (tget s.set.light.fade n)) } }
  else s

/-- R143: the fade step. -/
def State.lightStep1 (s : State) : State := all8.foldl (fun t n => t.fadeChannel n) s

/-- R147: the courtesy demands of a door opening, in ascending channel number. -/
def State.courtesy (s : State) : State :=
  let cfg := s.set.light
  all8.foldl
    (fun t n =>
      if cfg.courtesySet.getLsbD n.val then t.placeInternal .door (12 + n.val) cfg.courtesyLevel cfg.courtesyTime
      else t) s

/-- R147: the door step. -/
def State.lightStep2 (s : State) : State :=
  let was := s.light.door
  let t : State := { s with light := { s.light with door := some s.mu.door } }
  if was = some false ∧ s.mu.door = true then t.courtesy else t

/-- R143: one sweep of the lighting controller, from the entry to RUN. -/
def State.lightingSweep (s : State) : State := if s.isRun then s.lightStep1.lightStep2 else s

/-- R148: the STEP entry held on the old step-light channel moves to the new one, as two operations of the register.
Nothing comes between them (DESIGN CHOICE, log 36). -/
def State.moveStepLight (old new : Fin 8) (s : State) : State :=
  if old ≠ new ∧ hasEntry s.reg .step (12 + old.val) = true then
    (s.withdrawInternal .step (12 + old.val)).placeInternal .step (12 + new.val) 1000 0
  else s

end Sys2Proof.Machine
end

