-- ==== Sys2Proof/Machine/Operands.lean ====
section
/-!
DEFINITION. Requests and their frames (R151): the frame that carries each request row, and the row that a frame
belongs to.
-/

namespace Sys2Proof.Machine

/-- A request frame with the body bytes given, the bytes it does not use 0. -/
def request (kind tag : Byte) (body : List Byte) : Frame :=
  { kind := kind, tag := tag, b2 := body.getD 0 0, b3 := body.getD 1 0, b4 := body.getD 2 0, b5 := body.getD 3 0
    b6 := body.getD 4 0, b7 := body.getD 5 0 }

/-- Precedence in the high four bits, hold in the low four (R151). -/
def precHold (prec hold : BitVec 4) : Byte := (prec ++ hold : BitVec (4 + 4))

/-- The link and the frame of a request row; none for a row that is no request. -/
def requestFrame : Instr → Option (Link × Frame)
  | .place l tag target level prec hold secs =>
    some (l, request 0x01 tag ([target] ++ le16 level ++ [precHold prec hold] ++ le16 secs))
  | .withdraw l tag target => some (l, request 0x02 tag [target])
  | .withdrawAll l tag => some (l, request 0x03 tag [])
  | .deploy l tag device => some (l, request 0x04 tag [device, 0])
  | .stow l tag device => some (l, request 0x04 tag [device, 1])
  | .halt l tag device => some (l, request 0x04 tag [device, 2])
  | .extendTo l tag device p => some (l, request 0x04 tag ([device, 3] ++ le16 p))
  | .scene l tag n prec hold secs => some (l, request 0x05 tag ([n, precHold prec hold] ++ le16 secs))
  | .read l tag item index part => some (l, request 0x06 tag [item, index, part])
  | .events l tag flags mask => some (l, request 0x07 tag ([flags] ++ le16 mask))
  | .keepalive l tag => some (l, request 0x08 tag [])
  | .vehicle l tag speed => some (l, request 0x09 tag (le16 speed))
  | .configureStage l tag code index value => some (l, request 0x0A tag ([code, index] ++ le24 value ++ [1]))
  | .configure l tag code index value => some (l, request 0x0A tag ([code, index] ++ le24 value ++ [0]))
  | .clearLoadRecord l tag index => some (l, request 0x0B tag [0, index])
  | .clearHeater l tag => some (l, request 0x0B tag [1])
  | .clearPump l tag => some (l, request 0x0B tag [2])
  | .clearMotion l tag index => some (l, request 0x0B tag [3, index])
  | .clearIncidentGroup l tag index => some (l, request 0x0B tag [4, index])
  | .clearCapture l tag => some (l, request 0x0B tag [5])
  | .resetDemands l tag => some (l, request 0x0C tag [0])
  | .resetLoads l tag => some (l, request 0x0C tag [1])
  | .resetClimate l tag => some (l, request 0x0C tag [2])
  | .resetMotion l tag => some (l, request 0x0C tag [3])
  | .resetLinks l tag => some (l, request 0x0C tag [4])
  | .save l tag => some (l, request 0x0D tag [])
  | .selftest l tag => some (l, request 0x0E tag [])
  | .setCharge l tag pm => some (l, request 0x0F tag (le16 pm))
  | .closeDrain l tag => some (l, request 0x10 tag [])
  | .unknownKind l f => some (l, f)
  | _ => none

/-- The row of a MOTION frame by its command code. -/
def motionRow (l : Link) (f : Frame) : Instr :=
  if f.b3 = 0 then .deploy l f.tag f.b2
  else if f.b3 = 1 then .stow l f.tag f.b2
  else if f.b3 = 2 then .halt l f.tag f.b2
  else if f.b3 = 3 then .extendTo l f.tag f.b2 (word16 f.b4 f.b5)
  else .unknownKind l f

/-- The row of a CLEAR frame by its object code. -/
def clearRow (l : Link) (f : Frame) : Instr :=
  if f.b2 = 0 then .clearLoadRecord l f.tag f.b3
  else if f.b2 = 1 then .clearHeater l f.tag
  else if f.b2 = 2 then .clearPump l f.tag
  else if f.b2 = 3 then .clearMotion l f.tag f.b3
  else if f.b2 = 4 then .clearIncidentGroup l f.tag f.b3
  else if f.b2 = 5 then .clearCapture l f.tag
  else .unknownKind l f

/-- The row of a RESET_GROUP frame by its group code. -/
def resetRow (l : Link) (f : Frame) : Instr :=
  if f.b2 = 0 then .resetDemands l f.tag
  else if f.b2 = 1 then .resetLoads l f.tag
  else if f.b2 = 2 then .resetClimate l f.tag
  else if f.b2 = 3 then .resetMotion l f.tag
  else if f.b2 = 4 then .resetLinks l f.tag
  else .unknownKind l f

/-- The row of a CONFIGURE frame by its STAGE flag. -/
def configureRow (l : Link) (f : Frame) : Instr :=
  if f.b7.getLsbD 0 then .configureStage l f.tag f.b2 f.b3 (word24 f.b4 f.b5 f.b6)
  else .configure l f.tag f.b2 f.b3 (word24 f.b4 f.b5 f.b6)

/-- The row that a frame on a link belongs to (R151): every frame belongs to exactly one. -/
def decodeRequest (l : Link) (f : Frame) : Instr :=
  let hi := fun (b : Byte) => b.extractLsb' 4 4
  let lo := fun (b : Byte) => b.extractLsb' 0 4
  if f.kind = 0x01 then .place l f.tag f.b2 (word16 f.b3 f.b4) (hi f.b5) (lo f.b5) (word16 f.b6 f.b7)
  else if f.kind = 0x02 then .withdraw l f.tag f.b2
  else if f.kind = 0x03 then .withdrawAll l f.tag
  else if f.kind = 0x04 then motionRow l f
  else if f.kind = 0x05 then .scene l f.tag f.b2 (hi f.b3) (lo f.b3) (word16 f.b4 f.b5)
  else if f.kind = 0x06 then .read l f.tag f.b2 f.b3 f.b4
  else if f.kind = 0x07 then .events l f.tag f.b2 (word16 f.b3 f.b4)
  else if f.kind = 0x08 then .keepalive l f.tag
  else if f.kind = 0x09 then .vehicle l f.tag (word16 f.b2 f.b3)
  else if f.kind = 0x0A then configureRow l f
  else if f.kind = 0x0B then clearRow l f
  else if f.kind = 0x0C then resetRow l f
  else if f.kind = 0x0D then .save l f.tag
  else if f.kind = 0x0E then .selftest l f.tag
  else if f.kind = 0x0F then .setCharge l f.tag (word16 f.b2 f.b3)
  else if f.kind = 0x10 then .closeDrain l f.tag
  else .unknownKind l f

end Sys2Proof.Machine

namespace Sys2Proof

/-- A kind the part knows: 0x01 to 0x10 (R151, R155). -/
def Frame.known (f : Frame) : Bool := decide (1 ≤ f.kind.toNat) && decide (f.kind.toNat ≤ 0x10)

end Sys2Proof
end

