-- ==== Sys2Proof/Machine/Links.lean ====
section
/-!
DEFINITION. The link supervisor (chapter 10): silence timers and standing, the vehicle state, reception, the checks of
a request, replies and attention.
-/

namespace Sys2Proof.Machine

/-! ### Silence timers (R150, R157) -/

/-- A silence period in ms. -/
def silenceMs (n : Nat) : Nat := 2 ^ n * 250

/-- R157: a restart of the timer, with the periods of the settings as they stand (R150). -/
def LinkState.restarted (cfg : LinkSettings) (k : LinkState) : LinkState :=
  { k with timer := some 0, shortTaken := false, longTaken := false, shortN := cfg.shortN, longN := cfg.longN }

/-- A restart of a link's timer; it runs only in RUN and while the link is not OFF. -/
def State.restartTimer (l : Link) (s : State) : State :=
  if s.isRun ∧ (s.lk l).live ≠ .off then s.modLink l (LinkState.restarted (s.set.links.get l)) else s

/-- The time at which the next expiry not yet taken falls due. -/
def LinkState.deadline (k : LinkState) : Nat := if k.shortTaken then silenceMs k.longN else silenceMs k.shortN

/-- 100 ms more on a running timer. The expiry itself is a command, so the elapsed time stays short of it (DESIGN
CHOICE, log 10). -/
def LinkState.elapse (k : LinkState) : LinkState :=
  { k with timer := k.timer.map fun t => max t (min (t + 100) (k.deadline - 1)) }

/-- R157: the short expiry, taken once for each restart. -/
def State.shortExpiry (l : Link) (s : State) : State :=
  let k := s.lk l
  if s.isRun ∧ k.live ≠ .off ∧ k.timer.isSome = true ∧ k.shortTaken = false then
    (s.modLink l fun k => { k with shortTaken := true, timer := some (silenceMs k.shortN) }).raiseWith .shortSilence
      .linkSupervisor (.link l) none none
  else s

/-- R157: a long expiry that finds the link in ACT: LAPSED, tether removal, incident, LINK event. -/
def State.lapse (l : Link) (s : State) : State :=
  ((((s.modLink l fun k => { k with live := .lapsed }).tetherRemoval l).raiseWith .longSilence .linkSupervisor (.link l)
    none none)).raiseOthers l

/-- R157: the long expiry; the timer stops until its next restart. -/
def State.longExpiry (l : Link) (s : State) : State :=
  let k := s.lk l
  if s.isRun ∧ k.live ≠ .off ∧ k.timer.isSome = true ∧ k.longTaken = false then
    let t := s.modLink l fun k => { k with longTaken := true, timer := none }
    match k.live with
    | .act => t.lapse l
    | .watch => (t.raiseWith .longSilence .linkSupervisor (.link l) none none).raiseOthers l
    | _ => t
  else s

/-! ### Standing (R156) -/

def Standing.live : Standing → LiveStanding
  | .off => .off
  | .watch => .watch
  | .act => .act

/-- R156: a link takes a changed configured standing, in RUN. -/
def LinkState.takeStanding (cfg : LinkSettings) (k : LinkState) : LinkState :=
  match cfg.standing, k.live with
  | .off, _ => { k with live := .off, timer := none, batch := [], snapshot := none }
  | .watch, .off => { k with live := .watch }.restarted cfg
  | .watch, _ => { k with live := .watch }
  | .act, .off => { k with live := .act }.restarted cfg
  | .act, .watch => { k with live := .act }.restarted cfg
  | .act, .act => k
  | .act, .lapsed => k

/-- R65, R156: a changed configured standing makes a tether removal. -/
def losesTethers (now : Standing) (live : LiveStanding) : Bool :=
  match now, live with
  | .off, _ => true
  | .watch, .act => true
  | .watch, .lapsed => true
  | _, _ => false

/-- R150, R156, R159: one link takes its new settings: the standing, the echo set and, where the CONFIGURE writes it, the
working mask. -/
def LinkState.takeSettings (was now : LinkSettings) (maskWritten : Bool) (k : LinkState) : LinkState :=
  let j := { k with mask := if maskWritten then now.eventMask else k.mask, echo := now.echo }
  if now.standing = was.standing then j else j.takeStanding now

/-! ### The vehicle state (R160) -/

/-- R160: what follows a change of the vehicle state `a` to the present one, which is `b`. -/
def State.vehicleChanged (a b : State) : State :=
  let moves := a.vehicleMoving != b.vehicleMoving
  let knows := a.vehicle.speed.isSome != b.vehicle.speed.isSome
  let t := b.evalConditionIf moves .vehicleMoving
  let away := (moves && b.vehicleMoving) || (knows && b.vehicle.speed.isNone && b.mu.ign)
  let u := if away then t.driveAway else t
  u.raiseIf (moves || knows) .vehicle

/-- The speed becomes known at a value or UNKNOWN; the age timer restarts. -/
def State.setSpeed (v : Option Nat) (s : State) : State :=
  State.vehicleChanged s { s with vehicle := { speed := v, age := 0 } }

/-! ### Reception (R152 to R154) -/

/-- R154: a frame at the tail of the receive queue, or dropped where 4 are queued. -/
def State.enqueue (l : Link) (f : Frame) (s : State) : State :=
  if (s.lk l).rxQueue.length < 4 then s.modLink l fun k => { k with rxQueue := k.rxQueue ++ [f] }
  else s.raiseWith .malformed .linkSupervisor (.link l) none (some f.first4)

/-- R152: a frame dropped on its CRC; the capture carries no request bytes (R165). -/
def State.badCrc (l : Link) (s : State) : State := s.raiseWith .malformed .linkSupervisor (.link l) none none

/-- R152: eight payload bytes and the CRC byte have arrived. -/
def State.frameComplete (l : Link) (payload : List Byte) (crc : Byte) (s : State) : State :=
  match frameOf payload with
  | some f => if crc8 payload = crc then s.enqueue l f else s.badCrc l
  | none => s

/-- R152: one byte on a UART link. -/
def State.uartByte (l : Link) (b : Byte) (s : State) : State :=
  match (s.lk l).part with
  | none => if b = 0xA5 then s.modLink l fun k => { k with part := some [] } else s
  | some bs =>
    if bs.length < 8 then s.modLink l fun k => { k with part := some (bs ++ [b]) }
    else (s.modLink l fun k => { k with part := none }).frameComplete l bs b

/-- Links P and T are UARTs, and receive unless RST_N is low. -/
def State.receives (l : Link) (s : State) : Bool := s.awake && l != .c

/-- R153: a CAN frame. -/
def State.canFrame (id : BitVec 29) (remote : Bool) (data : List Byte) (s : State) : State :=
  if remote = false ∧ id = canRequestId s.can.node then
    match frameOf data with
    | some f => s.enqueue .c f
    | none =>
      s.raiseWith .malformed .linkSupervisor (.link .c) none (if 4 ≤ data.length then some (data.take 4) else none)
  else s

/-- R153: the CAN controller delivers its oldest reply. -/
def State.canDelivered (s : State) : State :=
  match s.can.replies with
  | [] => s
  | r :: rest =>
    { s with
      can := { s.can with replies := rest }
      links := s.links.set .c { s.links.c with sent := s.links.c.sent ++ [r] } }

/-! ### Replies -/

/-- What an owner answers: the status and result bytes; for a refusal NOT_PERMITTED, the block that refused and the
target that the request names (R155). -/
structure Reply where
  status : Status
  result : List Byte
  block : Block
  target : Option Nat
  deriving DecidableEq, Repr

/-- A reply with a status alone. -/
def Reply.plain (st : Status) : Reply := { status := st, result := [], block := .linkSupervisor, target := none }

/-- A reply with result bytes. -/
def Reply.with (st : Status) (bytes : List Byte) : Reply :=
  { status := st, result := bytes, block := .linkSupervisor, target := none }

/-- A refusal NOT_PERMITTED by an owner. -/
def Reply.forbidden (b : Block) (target : Option Nat) : Reply :=
  { status := .notPermitted, result := [], block := b, target := target }

/-- OK, or CLAMPED where a value was clamped. -/
def okOr (clamped : Bool) : Status := if clamped then .clamped else .ok

/-- Result byte `i` of a reply; a byte that no rule fills is open (log 8). -/
def resultByte (bytes : List Byte) (i : Nat) : Byte := (bytes[i]?).getD (Config.unfilledByte i)

/-- R151: the reply frame of a request. -/
def replyFrame (f : Frame) (r : Reply) : Frame :=
  { kind := if f.known then 0x80 + f.kind else 0xFF
    tag := f.tag
    b2 := r.status.code
    b3 := resultByte r.result 0
    b4 := resultByte r.result 1
    b5 := resultByte r.result 2
    b6 := resultByte r.result 3
    b7 := resultByte r.result 4 }

/-- A reply goes out on its link; on link C it is handed to the CAN controller (R153) (DESIGN CHOICE, log 6). -/
def State.sendReply (l : Link) (g : Frame) (s : State) : State :=
  match l with
  | .c => { s with can := { s.can with replies := s.can.replies ++ [{ id := some (canReplyId s.can.node), payload := g }] } }
  | l => { s with links := s.links.set l { s.links.get l with sent := (s.links.get l).sent ++ [{ id := none, payload := g }] } }

/-! ### The checks of a request (R155) -/

/-- R157: a valid frame returns a LAPSED link to ACT. -/
def State.returnFromLapsed (l : Link) (s : State) : State :=
  ((s.modLink l fun k => { k with live := .act }).restartTimer l).raiseOthers l

/-- R155 step 3. -/
def State.validFrame (l : Link) (f : Frame) (s : State) : State :=
  if (s.lk l).live = .lapsed then s.returnFromLapsed l
  else if (s.set.links.get l).silenceMode = .auto ∨ f.kind = 0x08 then s.restartTimer l
  else s

/-- READ, EVENTS and KEEPALIVE are served in WATCH. -/
def servedInWatch (f : Frame) : Bool := f.kind == 0x06 || f.kind == 0x07 || f.kind == 0x08

/-- CONFIGURE, RESET_GROUP, SAVE and SET_CHARGE need the config right. -/
def needsConfigRight (f : Frame) : Bool := f.kind == 0x0A || f.kind == 0x0C || f.kind == 0x0D || f.kind == 0x0F

/-- R155 steps 4 to 7: the refusal of the link supervisor, none where the request goes to its owner. -/
def State.linkCheck (l : Link) (f : Frame) (s : State) : Option Status :=
  if !s.isRun then some .busy
  else if (s.lk l).live = .watch ∧ servedInWatch f = false then some .linkWatch
  else if needsConfigRight f = true ∧ (s.set.links.get l).configRight = false then some .notPermitted
  else if f.kind = 0x09 ∧ l ≠ .c then some .notPermitted
  else none

/-- R155 steps 2 to 8: the state after the request and its answer. -/
def State.answer (l : Link) (f : Frame) (owner : State → State × Reply) (s : State) : State × Reply :=
  if f.known then
    let t := s.validFrame l f
    match t.linkCheck l f with
    | some st => (t, Reply.plain st)
    | none => owner t
  else (s.raiseIncident .malformed .linkSupervisor none, Reply.plain .unknownKind)

/-- R155: each reply NOT_PERMITTED raises REFUSED_PERMISSION (DEDUCED, log 18). -/
def State.reportRefusal (r : Reply) (s : State) : State :=
  if r.status = .notPermitted then s.raiseIncident .refusedPermission r.block r.target else s

/-- R153, R150: the handling is over; a new node acts from here on. -/
def State.endHandling (s : State) : State := { s with handling := none, can := { s.can with node := s.set.node } }

/-- R155: one frame is handled. -/
def State.handleFrame (l : Link) (f : Frame) (owner : State → State × Reply) (s : State) : State :=
  if (s.lk l).live = .off then s
  else
    let r := ({ s with handling := some (l, f) } : State).answer l f owner
    ((r.1.reportRefusal r.2).sendReply l (replyFrame f r.2)).endHandling

/-- R153: link C handles no frame while four replies wait. -/
def State.blocked (l : Link) (s : State) : Bool := l == .c && decide (4 ≤ s.can.replies.length)

/-- A request row (log 2): the frame at the head of the link's receive queue is handled where it is this request. With
an empty queue the request's own frame arrives and is handled at once. Behind other frames it waits its turn (R154).
While RST_N is low requests go unanswered (R170). -/
def State.onRequest (i : Instr) (l : Link) (f : Frame) (owner : State → State × Reply) (s : State) : State :=
  if s.awake then
    match (s.lk l).rxQueue with
    | [] => if s.blocked l then s.enqueue l f else s.handleFrame l f owner
    | g :: rest =>
      if decodeRequest l g = i then
        if s.blocked l then s else (s.modLink l fun k => { k with rxQueue := rest }).handleFrame l g owner
      else s.enqueue l f
  else s

/-- A request row with its own frame (R151). -/
def State.serve (i : Instr) (owner : State → State × Reply) (s : State) : State :=
  match requestFrame i with
  | some x => s.onRequest i x.1 x.2 owner
  | none => s

/-! ### Requests that the link supervisor answers -/

/-- Bits 10 to 15 of a mask are ignored (R151). -/
def kindsOf (m : EventSet) : EventSet := m &&& 0x03FF

/-- R161: EVENTS. The condition is formed once the mask is set and the set is empty, so a new mask that admits a kind
already pending sends no attention frame on link C (DESIGN CHOICE, log 24). -/
def State.takeEvents (l : Link) (flags : Byte) (mask : EventSet) (s : State) : State × Reply :=
  let m := if flags.getLsbD 0 then kindsOf mask else (s.lk l).mask
  (s.modLink l fun k => { k with mask := m, pending := 0 }, Reply.with .ok (le16 (s.lk l).pending ++ le16 m))

/-- R160: VEHICLE. -/
def State.takeVehicle (speed : BitVec 16) (s : State) : State × Reply :=
  (s.setSpeed (some (min 250 speed.toNat)), Reply.plain (okOr (decide (250 < speed.toNat))))

/-! ### LINKS group reset (R162) -/

/-- R162: one link. -/
def LinkState.linksReset (run : Bool) (cfg : LinkSettings) (k : LinkState) : LinkState :=
  let j : LinkState :=
    { k with
      live := cfg.standing.live
      pending := 0
      mask := cfg.eventMask
      echo := cfg.echo
      batch := []
      snapshot := none }
  if run && j.live != .off then j.restarted cfg else { j with timer := none }

/-- R162: the LINKS group reset. The speed becomes UNKNOWN after the sets are emptied (DESIGN CHOICE, log 25), with the
hand-overs of R160, so that controller S may raise the DRIVE_AWAY of R136 (DEDUCED, log 25). -/
def State.linksReset (s : State) : State :=
  let one := fun (l : Link) (t : State) => t.modLink l (LinkState.linksReset t.isRun (t.set.links.get l))
  let t := one .t (one .p (one .c s))
  ({ t with can := { t.can with replies := [] } } : State).setSpeed none

end Sys2Proof.Machine
end

