-- ==== Sys2Proof/Machine/Configure.lean ====
section
/-!
DEFINITION. Settings (R167): the codes, what a CONFIGURE writes (R159), its checks and the effects of a taken
CONFIGURE on each owner.
-/

namespace Sys2Proof.Machine

/-! ### Codes and indices (R167) -/

/-- Each setting code with the number of its indices, in code order. A code without an index counts as one. -/
def codeTable : List (Nat × Nat) :=
  [(0x01, 1), (0x02, 1), (0x03, 1), (0x04, 1), (0x05, 1), (0x06, 1), (0x08, 1), (0x09, 1), (0x0A, 1), (0x0B, 1),
   (0x10, 22), (0x11, 22), (0x12, 22), (0x13, 22), (0x14, 22), (0x15, 22), (0x18, 1), (0x19, 1), (0x1A, 1), (0x1B, 1),
   (0x20, 8), (0x21, 8), (0x22, 8), (0x23, 8), (0x24, 8), (0x28, 1), (0x29, 1), (0x2A, 1), (0x2B, 1), (0x30, 1),
   (0x31, 1), (0x32, 1), (0x33, 1), (0x34, 1), (0x35, 1), (0x36, 1), (0x37, 1), (0x38, 8), (0x39, 1), (0x3A, 1),
   (0x3B, 1), (0x3C, 1), (0x3D, 8), (0x40, 3), (0x41, 3), (0x42, 3), (0x43, 3), (0x44, 3), (0x45, 3), (0x46, 3),
   (0x47, 3), (0x48, 3), (0x49, 3), (0x50, 22), (0x51, 1), (0x58, 1), (0x59, 1)]

/-- R159: a known setting code. -/
def knownCode (code : Nat) : Bool := codeTable.any fun x => x.1 == code

/-- The link of an index. -/
def linkOf : Nat → Option Link
  | 0 => some .c
  | 1 => some .p
  | 2 => some .t
  | _ => none

/-! ### Values -/

def chemistryOf : Nat → Chemistry
  | 0 => .lead
  | _ => .lithium

def zoneOf : Nat → Zone
  | 0 => .living
  | 1 => .sleep
  | 2 => .cab
  | 3 => .exterior
  | _ => .service

def policyOf : Nat → Policy
  | 0 => .auto
  | _ => .manual

def standingOf : Nat → Standing
  | 0 => .off
  | 1 => .watch
  | _ => .act

def silenceModeOf : Nat → SilenceMode
  | 0 => .auto
  | _ => .keepalive

def severityOf : Nat → Severity
  | 0 => .notice
  | _ => .severe

def conditionOf : Nat → Option Condition
  | 0 => some .ignitionOn
  | 1 => some .engineRunning
  | 2 => some .vehicleMoving
  | 3 => some .shorePresent
  | 4 => some .bankReserve
  | 5 => some .bankCold
  | 6 => some .cabinDoorOpen
  | 7 => some .greyFull
  | _ => none

def actionOf : Nat → Option SlotAction
  | 0 => some .force
  | 1 => some .cap
  | _ => none

/-- A written setting: the settings with it, and whether its value was clamped; none for BAD_VALUE. -/
abbrev Written := Option (Settings × Bool)

/-- A value clamped into `lo..hi` and stored by `put` (DEDUCED for enumerations, log 14). -/
def ranged (lo hi v : Nat) (put : Nat → Settings) : Written :=
  some (put (clampNat lo hi v), decide (v < lo ∨ hi < v))

/-- A flag: 0 off, 1 on. -/
def onOff (v : Nat) (put : Bool → Settings) : Written := ranged 0 1 v fun x => put (x == 1)

/-- A record that the register drives (R35). -/
def isRegister (r : RecNo) : Bool := recDriver r == .register

/-- R35: the class is a setting of the records 0, 1 and 3 to 19. -/
def hasClass (r : RecNo) : Bool := r != 2 && r != 20 && r != 21

/-! ### Writing one setting -/

/-- Codes 0x01 to 0x06 (1.1). -/
def writeAccount (cfg : Settings) (code v : Nat) : Written :=
  let put := fun (a : AcctSettings) => { cfg with acct := a }
  let a := cfg.acct
  match code with
  | 0x01 => ranged 20 1000 v fun x => put { a with cNom := x }
  | 0x02 => ranged 0 1 v fun x => put { a with chemistry := chemistryOf x }
  | 0x03 => ranged 200 256 v fun x => put { a with eta := x }
  | 0x04 => ranged 13000 15000 v fun x => put { a with vFull := x }
  | 0x05 => ranged 50 600 v fun x => put { a with reservePm := x }
  | 0x06 => ranged 1000 30000 v fun x => put { a with iMax := x }
  | _ => none

/-- Codes 0x08 to 0x0B (2.1) and 0x18 to 0x1B (5.1). -/
def writeEnergy (cfg : Settings) (code v : Nat) : Written :=
  let putC := fun (c : ChargeSettings) => { cfg with charge := c }
  let c := cfg.charge
  let putW := fun (w : PerClass Nat) => { cfg with alloc := { cfg.alloc with weights := w } }
  let w := cfg.alloc.weights
  match code with
  | 0x08 => onOff v fun x => putC { c with solarEnable := x }
  | 0x09 => onOff v fun x => putC { c with altEnable := x }
  | 0x0A => ranged 0 60 v fun x => putC { c with altDelay := x }
  | 0x0B => ranged 500 990 v fun x => putC { c with holdRelease := x }
  | 0x18 => ranged 1 15 v fun x => putW { w with c2 := x }
  | 0x19 => ranged 1 15 v fun x => putW { w with c1 := x }
  | 0x1A => ranged 1 15 v fun x => putW { w with c0 := x }
  | 0x1B => ranged 1 600 v fun x => { cfg with alloc := { cfg.alloc with restoreDelay := x } }
  | _ => none

/-- Codes 0x10 to 0x15 (R35); a setting that the record does not have is BAD_VALUE. -/
def writeRecord (cfg : Settings) (code : Nat) (r : RecNo) (v : Nat) : Written :=
  let put := fun (x : RecSettings) => { cfg with recs := tset cfg.recs r x }
  let x := tget cfg.recs r
  match code with
  | 0x10 => if hasClass r then ranged 0 3 v fun n => put { x with cls := n } else none
  | 0x11 => ranged 0 2000 v fun n => put { x with rated := n }
  | 0x12 => if r = 1 then ranged 0 3000 v fun n => put { x with surge := n } else none
  | 0x13 => if isRegister r then ranged 0 4 v fun n => put { x with zone := zoneOf n } else none
  | 0x14 => if isRegister r then ranged 0 1000 v fun n => put { x with rest := storeLevel r n } else none
  | 0x15 => if r.val < 20 then ranged 0 1 v fun n => put { x with policy := policyOf n } else none
  | _ => none

/-- Codes 0x20 to 0x24 (R73). -/
def writeSlot (cfg : Settings) (code : Nat) (i : Fin 8) (v : Nat) : Written :=
  let put := fun (x : Slot) => { cfg with slots := tset cfg.slots i x }
  let x := tget cfg.slots i
  match code with
  | 0x20 => onOff v fun b => put { x with enabled := b }
  | 0x21 => (conditionOf v).map fun c => (put { x with condition := c }, false)
  | 0x22 => if 3 ≤ v ∧ v ≤ 19 then (recOf v).map fun r => (put { x with target := r }, false) else none
  | 0x23 => (actionOf v).map fun a => (put { x with action := a }, false)
  | 0x24 => ranged 0 1000 v fun n => put { x with level := n }
  | _ => none

/-- Codes 0x28 to 0x2B (7.1). -/
def writeWater (cfg : Settings) (code v : Nat) : Written :=
  let put := fun (w : WaterSettings) => { cfg with water := w }
  let w := cfg.water
  match code with
  | 0x28 => ranged 0 1000 v fun x => put { w with freshEmpty := x }
  | 0x29 => ranged 0 1000 v fun x => put { w with freshFull := x }
  | 0x2A => onOff v fun x => put { w with greyInhibit := x }
  | 0x2B => ranged 10 600 v fun x => put { w with dryLimit := x }
  | _ => none

/-- Codes 0x30 to 0x37 (8.1). -/
def writeMotion (cfg : Settings) (code v : Nat) : Written :=
  let put := fun (m : MotionSettings) => { cfg with motion := m }
  let m := cfg.motion
  match code with
  | 0x30 => ranged 1 60 v fun x => put { m with tFull := m.tFull.set .awning x }
  | 0x31 => ranged 1 60 v fun x => put { m with tFull := m.tFull.set .step x }
  | 0x32 => ranged 100 3000 v fun x => put { m with stall := m.stall.set .awning x }
  | 0x33 => ranged 100 3000 v fun x => put { m with stall := m.stall.set .step x }
  | 0x34 => ranged 10500 13500 v fun x => put { m with motionMin := x }
  | 0x35 => onOff v fun x => put { m with stowOnIgn := x }
  | 0x36 => ranged 1 100 v fun x => put { m with windFactor := x }
  | 0x37 => ranged 10 120 v fun x => put { m with windLimit := x }
  | _ => none

/-! ### Scenes (R145) -/

/-- SET: the level replaced in place, or the pair appended. -/
def sceneSet (n : Fin 8) (level : Nat) (ps : List ScenePair) : List ScenePair :=
  if ps.any fun p => p.channel == n then ps.map fun p => if p.channel == n then { p with level := level } else p
  else ps ++ [{ channel := n, level := level }]

/-- REMOVE: the pairs behind it close up. -/
def sceneRemove (n : Fin 8) (ps : List ScenePair) : List ScenePair := ps.filter fun p => p.channel != n

/-- Level, channel and action of a scene value (R167): bits 0..10, 12..15, 16..17. -/
def sceneFields (v : Nat) : Nat × Nat × Nat := (v % 2048, v / 4096 % 16, v / 65536 % 4)

/-- Code 0x3D (R145). -/
def writeScene (cfg : Settings) (i : Fin 8) (v : Nat) : Written :=
  let put := fun (ps : List ScenePair) => { cfg with light := { cfg.light with scenes := tset cfg.light.scenes i ps } }
  let ps := tget cfg.light.scenes i
  let x := sceneFields v
  match x.2.2 with
  | 0 => match fin8Of x.2.1 with
    | some n => ranged 0 1000 x.1 fun level => put (sceneSet n level ps)
    | none => none
  | 1 => (fin8Of x.2.1).map fun n => (put (sceneRemove n ps), false)
  | 2 => some (put [], false)
  | _ => none

/-- Codes 0x38 to 0x3C (chapter 9); 0x38 by channel `i`. -/
def writeLight (cfg : Settings) (code : Nat) (i : Fin 8) (v : Nat) : Written :=
  let put := fun (x : LightSettings) => { cfg with light := x }
  let x := cfg.light
  match code with
  | 0x38 => ranged 1 1000 v fun n => put { x with fade := tset x.fade i n }
  | 0x39 => some (put { x with courtesySet := BitVec.ofNat 8 v }, false)
  | 0x3A => ranged 0 1000 v fun n => put { x with courtesyLevel := n }
  | 0x3B => ranged 10 600 v fun n => put { x with courtesyTime := n }
  | 0x3C => (fin8Of v).map fun n => (put { x with stepLight := n }, false)
  | _ => none

/-- Codes 0x40 to 0x49 (10.1). -/
def writeLink (cfg : Settings) (code : Nat) (l : Link) (v : Nat) : Written :=
  let put := fun (x : LinkSettings) => { cfg with links := cfg.links.set l x }
  let x := cfg.links.get l
  match code with
  | 0x40 => ranged 0 2 v fun n => put { x with standing := standingOf n }
  | 0x41 => some (put { x with membership := BitVec.ofNat 5 v }, false)
  | 0x42 => ranged 0 3 v fun n => put { x with ceiling := n }
  | 0x43 => onOff v fun b => put { x with configRight := b }
  | 0x44 => ranged 0 1 v fun n => put { x with silenceMode := silenceModeOf n }
  | 0x45 => ranged 0 10 v fun n => put { x with shortN := n }
  | 0x46 => ranged 1 10 v fun n => put { x with longN := n }
  | 0x47 => some (put { x with eventMask := kindsOf (BitVec.ofNat 16 v) }, false)
  | 0x48 => some (put { x with echo := BitVec.ofNat 5 v }, false)
  | 0x49 => if l = .c then ranged 0 15 v fun n => { cfg with node := n } else none
  | _ => none

/-- Codes 0x50 to 0x59 (11.1, 11.4); 0x50 by kind `k`. -/
def writeLog (cfg : Settings) (code : Nat) (k : Fin 22) (v : Nat) : Written :=
  match code with
  | 0x50 => ranged 0 1 v fun n => { cfg with severity := tset cfg.severity k (severityOf n) }
  | 0x51 => some ({ cfg with faultMask := BitVec.ofNat 22 v }, false)
  | 0x58 => ranged 0 63 v fun n => { cfg with debounceButtons := n }
  | 0x59 => ranged 0 63 v fun n => { cfg with debounceOthers := n }
  | _ => none

/-- One setting written (R159, R167); none for BAD_VALUE. -/
def writeSetting (cfg : Settings) (code index v : Nat) : Written :=
  if code ≤ 0x06 then writeAccount cfg code v
  else if code ≤ 0x0B then writeEnergy cfg code v
  else if 0x10 ≤ code ∧ code ≤ 0x15 then (recOf index).bind fun r => writeRecord cfg code r v
  else if 0x18 ≤ code ∧ code ≤ 0x1B then writeEnergy cfg code v
  else if 0x20 ≤ code ∧ code ≤ 0x24 then (fin8Of index).bind fun i => writeSlot cfg code i v
  else if 0x28 ≤ code ∧ code ≤ 0x2B then writeWater cfg code v
  else if 0x30 ≤ code ∧ code ≤ 0x37 then writeMotion cfg code v
  else if code = 0x38 then (fin8Of index).bind fun i => writeLight cfg code i v
  else if 0x39 ≤ code ∧ code ≤ 0x3C then writeLight cfg code 0 v
  else if code = 0x3D then (fin8Of index).bind fun i => writeScene cfg i v
  else if 0x40 ≤ code ∧ code ≤ 0x49 then (linkOf index).bind fun l => writeLink cfg code l v
  else if code = 0x50 then (recOf index).bind fun k => writeLog cfg code k v
  else if 0x51 ≤ code then writeLog cfg code 0 v
  else none

/-! ### Several changes as one operation (R159) -/

/-- The changes of an operation written one after the other. -/
def writeAll (cs : List Change) (cfg : Settings) : Written :=
  cs.foldl
    (fun acc c => acc.bind fun x =>
      (writeSetting x.1 c.code.toNat c.index.toNat c.value.toNat).map fun y => (y.1, x.2 || y.2))
    (some (cfg, false))

/-- The operation writes this code after its last write of the chemistry. -/
def writtenAfterChemistry (cs : List Change) (code : Byte) : Bool :=
  (cs.reverse.takeWhile fun c => c.code != 0x02).any fun c => c.code == code

/-- R2: a changed chemistry gives η and V_full its default settings, unless the same operation writes them later
(DEDUCED, log 13). -/
def chemistryDefaults (old : Settings) (cs : List Change) (cfg : Settings) : Settings :=
  let a := cfg.acct
  if a.chemistry = old.acct.chemistry then cfg
  else
    { cfg with
      acct := { a with
        eta := if writtenAfterChemistry cs 0x03 then a.eta else defaultEta a.chemistry
        vFull := if writtenAfterChemistry cs 0x04 then a.vFull else defaultVFull a.chemistry } }

/-- R112: a CONFIGURE that would leave fresh_full equal to fresh_empty is refused. -/
def freshRefused (cfg : Settings) : Bool := cfg.water.freshFull == cfg.water.freshEmpty

/-- R150: long n kept above short n on one link; none where short n is 10. -/
def fixPeriods (l : Link) (x : Settings × Bool) : Written :=
  let k := x.1.links.get l
  if k.longN ≤ k.shortN then
    if k.shortN = 10 then none
    else some ({ x.1 with links := x.1.links.set l { k with longN := k.shortN + 1 } }, true)
  else some x

/-- R150 on every link. -/
def fixAllPeriods (x : Settings × Bool) : Written :=
  ((fixPeriods .c x).bind (fixPeriods .p)).bind (fixPeriods .t)

/-- R159: the settings a CONFIGURE leaves and whether a value was clamped; none for BAD_VALUE. -/
def newSettings (cs : List Change) (cfg : Settings) : Written :=
  (writeAll cs cfg).bind fun x =>
    let y := chemistryDefaults cfg cs x.1
    if freshRefused y then none else fixAllPeriods (y, x.2)

/-! ### Effects of a taken CONFIGURE on the owners -/

/-- R73: the records that a changed slot names before and after are evaluated again. -/
def State.applySlots (old : Settings) (s : State) : State :=
  all8.foldl
    (fun t i =>
      if tget old.slots i = tget t.set.slots i then t
      else (t.evalOrder (tget old.slots i).target).evalOrder (tget t.set.slots i).target) s

/-- R124: run_ms clamped into the range of T_full. -/
def State.applyTravel (s : State) : State :=
  let one := fun (d : Device) (t : State) =>
    { t with mot := t.mot.set d { t.mot.get d with runMs := min (t.tFullMs d) (t.mot.get d).runMs } }
  one .step (one .awning s)

/-- R112: a changed calibration marks the window for refilling. -/
def State.applyCalibration (old : Settings) (s : State) : State :=
  if old.water.freshEmpty = s.set.water.freshEmpty ∧ old.water.freshFull = s.set.water.freshFull then s
  else { s with water := { s.water with refill := true } }

/-- The operation writes the event mask of this link. -/
def writesMask (cs : List Change) (l : Link) : Bool := cs.any fun c => c.code == 0x47 && c.index.toNat == l.no

/-- R156, R159: the new settings reach the link supervisor as one operation: every link takes its own, and then the other
links hear of each that has changed its live standing. -/
def State.applyLinks (was : Settings) (cs : List Change) (s : State) : State :=
  let one := fun (t : State) (l : Link) =>
    t.modLink l (LinkState.takeSettings (was.links.get l) (s.set.links.get l) (writesMask cs l))
  allLinks.foldl (fun t l => if (t.lk l).live = (s.lk l).live then t else t.raiseOthers l) (allLinks.foldl one s)

/-- The links whose tethers the new settings remove (R65, R156). -/
def State.tethersLost (new : Settings) (s : State) : List Link :=
  allLinks.filter fun l =>
    (new.links.get l).standing != (s.set.links.get l).standing && losesTethers (new.links.get l).standing (s.lk l).live

/-- R159: a taken CONFIGURE reaches each owner as one operation, every owner with the new settings (DESIGN CHOICE for the
order of the owners, log 13). -/
def State.applySettings (cs : List Change) (new : Settings) (s : State) : State :=
  let was := s.set
  let s0 : State := { s with set := new, store := { s.store with modified := true } }
  let s1 := ((s0.applyLinks was cs).accountSettings).regSettings was (s.tethersLost new)
  let s2 := ((s1.applySlots was).applyTravel).applyCalibration was
  (s2.moveStepLight was.light.stepLight new.light.stepLight).formFaultN

/-- R159: CONFIGURE without STAGE. -/
def State.takeConfigure (l : Link) (c : Change) (s : State) : State × Reply :=
  if s.store.saving.isSome then (s, Reply.plain .busy)
  else
    let cs := (s.lk l).batch ++ [c]
    let t := s.modLink l fun k => { k with batch := [] }
    match newSettings cs s.set with
    | some x => (t.applySettings cs x.1, Reply.plain (okOr x.2))
    | none => (t, Reply.plain .badValue)

/-- R159: CONFIGURE with STAGE. -/
def State.takeStage (l : Link) (c : Change) (s : State) : State × Reply :=
  if s.store.saving.isSome then (s, Reply.plain .busy)
  else if knownCode c.code.toNat = false ∨ 8 ≤ (s.lk l).batch.length then (s, Reply.plain .badValue)
  else (s.modLink l fun k => { k with batch := k.batch ++ [c] }, Reply.plain .ok)

end Sys2Proof.Machine
end

