-- ==== Sys2Proof/Machine/Image.lean ====
section
/-!
DEFINITION. The settings image (R167): the bytes a save writes, and the settings a load accepts (R168).
-/

namespace Sys2Proof.Machine

/-! ### The value of each setting -/

/-- Codes 0x10 to 0x15; a setting that the record does not have is held as 0. -/
def recordValue (cfg : Settings) (code : Nat) (r : RecNo) : Nat :=
  let x := tget cfg.recs r
  match code with
  | 0x10 => if hasClass r then x.cls else 0
  | 0x11 => x.rated
  | 0x12 => if r = 1 then x.surge else 0
  | 0x13 => if isRegister r then x.zone.no else 0
  | 0x14 => if isRegister r then x.rest else 0
  | 0x15 => if r.val < 20 then x.policy.no else 0
  | _ => 0

/-- Codes 0x20 to 0x24. -/
def slotValue (cfg : Settings) (code : Nat) (i : Fin 8) : Nat :=
  let x := tget cfg.slots i
  match code with
  | 0x20 => flag x.enabled
  | 0x21 => x.condition.no
  | 0x22 => x.target.val
  | 0x23 => x.action.no
  | 0x24 => x.level
  | _ => 0

/-- Codes 0x40 to 0x49; the node of link P or T is held as 0. -/
def linkValue (cfg : Settings) (code : Nat) (l : Link) : Nat :=
  let x := cfg.links.get l
  match code with
  | 0x40 => x.standing.no
  | 0x41 => x.membership.toNat
  | 0x42 => x.ceiling
  | 0x43 => flag x.configRight
  | 0x44 => x.silenceMode.no
  | 0x45 => x.shortN
  | 0x46 => x.longN
  | 0x47 => x.eventMask.toNat
  | 0x48 => x.echo.toNat
  | 0x49 => if l = .c then cfg.node else 0
  | _ => 0

/-- Codes without an index. -/
def plainValue (cfg : Settings) (code : Nat) : Nat :=
  match code with
  | 0x01 => cfg.acct.cNom
  | 0x02 => cfg.acct.chemistry.no
  | 0x03 => cfg.acct.eta
  | 0x04 => cfg.acct.vFull
  | 0x05 => cfg.acct.reservePm
  | 0x06 => cfg.acct.iMax
  | 0x08 => flag cfg.charge.solarEnable
  | 0x09 => flag cfg.charge.altEnable
  | 0x0A => cfg.charge.altDelay
  | 0x0B => cfg.charge.holdRelease
  | 0x18 => cfg.alloc.weights.c2
  | 0x19 => cfg.alloc.weights.c1
  | 0x1A => cfg.alloc.weights.c0
  | 0x1B => cfg.alloc.restoreDelay
  | 0x28 => cfg.water.freshEmpty
  | 0x29 => cfg.water.freshFull
  | 0x2A => flag cfg.water.greyInhibit
  | 0x2B => cfg.water.dryLimit
  | 0x30 => cfg.motion.tFull.awning
  | 0x31 => cfg.motion.tFull.step
  | 0x32 => cfg.motion.stall.awning
  | 0x33 => cfg.motion.stall.step
  | 0x34 => cfg.motion.motionMin
  | 0x35 => flag cfg.motion.stowOnIgn
  | 0x36 => cfg.motion.windFactor
  | 0x37 => cfg.motion.windLimit
  | 0x39 => cfg.light.courtesySet.toNat
  | 0x3A => cfg.light.courtesyLevel
  | 0x3B => cfg.light.courtesyTime
  | 0x3C => cfg.light.stepLight.val
  | 0x51 => cfg.faultMask.toNat
  | 0x58 => cfg.debounceButtons
  | 0x59 => cfg.debounceOthers
  | _ => 0

/-- The 24-bit value of a setting as CONFIGURE carries it; scenes have a layout of their own. -/
def settingValue (cfg : Settings) (code index : Nat) : Nat :=
  if 0x10 ≤ code ∧ code ≤ 0x15 then ((recOf index).map (recordValue cfg code)).getD 0
  else if 0x20 ≤ code ∧ code ≤ 0x24 then ((fin8Of index).map (slotValue cfg code)).getD 0
  else if code = 0x38 then ((fin8Of index).map (tget cfg.light.fade)).getD 0
  else if 0x40 ≤ code ∧ code ≤ 0x49 then ((linkOf index).map (linkValue cfg code)).getD 0
  else if code = 0x50 then ((recOf index).map fun k => (tget cfg.severity k).no).getD 0
  else plainValue cfg code

/-! ### Writing the image -/

/-- Three bytes, low byte first. -/
def bytes3 (v : Nat) : List Byte := le24 (BitVec.ofNat 24 v)

/-- A pair in the layout of a SET action. -/
def pairValue (p : ScenePair) : Nat := p.level + p.channel.val * 4096

/-- A scene: its number of pairs and eight three-byte fields, those beyond its pairs 0. -/
def sceneBytes (ps : List ScenePair) : List Byte :=
  byteOf ps.length :: ([0, 1, 2, 3, 4, 5, 6, 7] : List Nat).flatMap fun k => bytes3 (((ps[k]?).map pairValue).getD 0)

/-- The bytes of one code, with every index of its range. -/
def codeBytes (cfg : Settings) (x : Nat × Nat) : List Byte :=
  (List.range x.2).flatMap fun index =>
    if x.1 = 0x3D then ((fin8Of index).map fun i => sceneBytes (tget cfg.light.scenes i)).getD []
    else bytes3 (settingValue cfg x.1 index)

/-- The settings bytes in code order. -/
def settingsBytes (cfg : Settings) : List Byte := codeTable.flatMap (codeBytes cfg)

/-- Format number 0x01 and the length 995, low byte first. -/
def imageHeader : List Byte := [0x01, 0xE3, 0x03]

/-- R167: the image. -/
def imageOf (cfg : Settings) : List Byte :=
  let body := imageHeader ++ settingsBytes cfg
  body ++ le16 (crc16 body)

/-! ### Reading the image (R168) -/

/-- The 24-bit value of the first three bytes. -/
def value3 : List Byte → Nat
  | b0 :: b1 :: b2 :: _ => (word24 b0 b1 b2).toNat
  | _ => 0

/-- R35, R167: the record or the link has no such setting (DESIGN CHOICE, log 15). -/
def absentSetting (code index : Nat) : Bool :=
  match recOf index with
  | some r =>
    if code = 0x10 then !hasClass r
    else if code = 0x12 then r != 1
    else if code = 0x13 ∨ code = 0x14 then !isRegister r
    else if code = 0x15 then decide (20 ≤ r.val)
    else code == 0x49 && index != 0
  | none => false

/-- One setting of the image taken: clamped as CONFIGURE would clamp it, none where CONFIGURE would refuse it, and none
where the value is in range and yet one that no CONFIGURE leaves, such as a surplus bit of a set (R168). -/
def takeValue (code index v : Nat) (cfg : Settings) : Option Settings :=
  if absentSetting code index then if v = 0 then some cfg else none
  else (writeSetting cfg code index v).bind fun x =>
    if x.2 = true ∨ settingValue x.1 code index = v then some x.1 else none

/-- The pairs of a scene field list: each a SET of a channel not yet in the scene with no other bit set, the fields
beyond them 0. -/
def takePairs : Nat → List Nat → List ScenePair → Option (List ScenePair)
  | 0, vs, ps => if vs.all (· == 0) then some ps else none
  | _ + 1, [], _ => none
  | n + 1, v :: vs, ps =>
    let x := sceneFields v
    match fin8Of x.2.1 with
    | some c =>
      if v ≠ pairValue { channel := c, level := x.1 } ∨ (ps.any fun p => p.channel == c) = true then none
      else takePairs n vs (ps ++ [{ channel := c, level := min 1000 x.1 }])
    | none => none

/-- One scene of the image. -/
def takeScene (index : Nat) (bs : List Byte) (cfg : Settings) : Option Settings :=
  match bs, fin8Of index with
  | n :: fields, some i =>
    let vs := ([0, 3, 6, 9, 12, 15, 18, 21] : List Nat).map fun k => value3 (fields.drop k)
    (takePairs n.toNat vs []).map fun ps =>
      { cfg with light := { cfg.light with scenes := tset cfg.light.scenes i ps } }
  | _, _ => none

/-- The settings in image order, each with its code, its index and its number of bytes. -/
def imageFields : List (Nat × Nat × Nat) :=
  codeTable.flatMap fun x => (List.range x.2).map fun i => (x.1, i, if x.1 = 0x3D then 25 else 3)

/-- The settings bytes taken in order. -/
def takeFields : List (Nat × Nat × Nat) → List Byte → Settings → Option Settings
  | [], _, cfg => some cfg
  | x :: xs, bs, cfg =>
    let field := bs.take x.2.2
    let next := if x.1 = 0x3D then takeScene x.2.1 field cfg else takeValue x.1 x.2.1 (value3 field) cfg
    match next with
    | some c => takeFields xs (bs.drop x.2.2) c
    | none => none

/-- R168: the settings of an image, none where the store rejects it (DEDUCED, log 15). -/
def parseImage (image : List Byte) : Option Settings :=
  let body := image.take 998
  if image.length < 1000 ∨ image.take 3 ≠ imageHeader ∨ (image.drop 998).take 2 ≠ le16 (crc16 body) then none
  else
    (takeFields imageFields (body.drop 3) Settings.default).bind fun cfg => (fixAllPeriods (cfg, false)).map (·.1)

end Sys2Proof.Machine
end

