-- ==== Sys2Proof/Machine/Read.lean ====
section
/-!
DEFINITION. The READ items (R158): the fields of each item in the order its owning chapter gives them, their bytes,
and the snapshot a READ takes.
-/

namespace Sys2Proof.Machine

/-! ### Fields -/

/-- A field that is absent (R158). -/
def absent : List Byte := [0xFF, 0xFF]

/-- A two-byte field. -/
def f2 (n : Nat) : List Byte := le16 (BitVec.ofNat 16 n)

/-- A four-byte field: Q, C_eff, the throughput. -/
def f4 (n : Nat) : List Byte := le32 (BitVec.ofNat 32 n)

/-- A signed two-byte field. -/
def fInt (v : Int) : List Byte := le16 (int16 v)

/-- A field that may be absent. -/
def fOpt (x : Option Nat) : List Byte := match x with
  | some n => f2 n
  | none => absent

/-- A signed field that may be absent. -/
def fOptInt (x : Option Int) : List Byte := match x with
  | some n => fInt n
  | none => absent

/-! ### Numbers of the enumerations that only READ shows -/

def RecKind.no : RecKind → Nat
  | .switched => 0
  | .dimmed => 1
  | .motor => 2

def Driver.no : Driver → Nat
  | .register => 0
  | .function => 1
  | .motion => 2

def AllocState.no : AllocState → Nat
  | .granted => 0
  | .shed => 1

def Prot.no : Prot → Nat
  | .normal => 0
  | .tripped => 1
  | .retryWait => 2
  | .unprotected => 3

def SyncState.no : SyncState → Nat
  | .unsynced => 0
  | .synced => 1
  | .manual => 2
  | .drifting => 3

def BankState.no : BankState → Nat
  | .normal => 0
  | .reserve => 1
  | .cut => 2

def HardPath.no : HardPath → Nat
  | .armed => 0
  | .lost => 1

def Permission.no : Permission → Nat
  | .allowed => 0
  | .coldHold => 1
  | .hotHold => 2
  | .absorbHold => 3

def HeatMode.no : HeatMode → Nat
  | .off => 0
  | .frost => 1
  | .eco => 2
  | .comfort => 3

def HeaterState.no : HeaterState → Nat
  | .off => 0
  | .waitBudget => 1
  | .start => 2
  | .run => 3
  | .coolDown => 4
  | .lockout => 5

def DrainState.no : DrainState → Nat
  | .opened => 0
  | .closed => 1

def OpenCause.no : OpenCause → Nat
  | .powerOn => 0
  | .frost => 1
  | .cut => 2
  | .channel => 3

def PumpMode.no : PumpMode → Nat
  | .off => 0
  | .auto => 1

def PumpState.no : PumpState → Nat
  | .off => 0
  | .idle => 1
  | .running => 2
  | .inhibited => 3
  | .dryLock => 4

/-- DRY, TRIP, none, as the state table lists the lock causes. -/
def lockCauseNo : Option LockCause → Nat
  | some .dry => 0
  | some .trip => 1
  | none => 2

def FaultCause.no : FaultCause → Nat
  | .stall => 0
  | .timeout => 1
  | .sensor => 2
  | .latch => 3

/-- OUT, IN, none, as the state table lists the directions. -/
def dirNo : Option Dir → Nat
  | some .outward => 0
  | some .inward => 1
  | none => 2

def Lamp.no : Lamp → Nat
  | .off => 0
  | .steady => 1
  | .blink1 => 2
  | .blink4 => 3

def Hold.no : Hold → Nat
  | .persist => 0
  | .timed _ => 1
  | .tethered => 2

def Hold.seconds : Hold → Option Nat
  | .timed n => some n
  | _ => none

def TestResult.no : TestResult → Nat
  | .none => 0
  | .pass => 1
  | .fail => 2
  | .skipped => 3
  | .aborted => 4

def ImageState.no : ImageState → Nat
  | .valid => 0
  | .defaults => 1

def LiveStanding.no : LiveStanding → Nat
  | .off => 0
  | .watch => 1
  | .act => 2
  | .lapsed => 3

/-! ### Items -/

/-- The drive of a record: off or on; for a dimmed record the output level. -/
def State.driveLevel (s : State) (r : RecNo) : Nat :=
  match channelOf r with
  | some n => if recKind r = .dimmed then tget s.light.out n else flag (s.driveOn r)
  | none => flag (s.driveOn r)

/-- The measured current of a record (R44). -/
def State.current (s : State) (r : RecNo) : Nat := tget s.mu.currents r

/-- Record item (R44, 3.1). The retry timer is stopped but in RETRY_WAIT, and its field then absent (R158) (DEDUCED,
log 16). -/
def State.recordItem (s : State) (r : RecNo) : List Byte :=
  let x := s.row r
  let c := s.cfg r
  let own := fun (b : Bool) (n : Nat) => if b then f2 n else absent
  f2 r.val ++ f2 r.val ++ f2 (recKind r).no ++ f2 c.zone.no ++ f2 c.cls ++ f2 (recDriver r).no ++ f2 c.rated ++
    own (r == 1) c.surge ++ own (isRegister r) c.rest ++ own (decide (r.val < 20)) c.policy.no ++
    f2 x.wanted ++ f2 x.wantedBy.no ++ f2 x.ordered ++ fOpt (x.orderSlot.map (·.val)) ++ f2 x.alloc.no ++
    f2 x.granted ++ f2 x.prot.no ++ f2 (s.driveLevel r) ++ f2 (s.current r) ++
    (if r.val < 20 then
      f2 x.bucket ++ f2 x.retryCount ++ (if x.prot = .retryWait then f2 x.retryTimer else absent)
    else [])

/-- Account item (R19). -/
def State.accountItem (s : State) : List Byte :=
  let a := s.acct
  f4 a.q ++ f4 a.cEff ++ f2 a.socPm ++ f2 a.sync.no ++ f2 a.effReserve ++ f2 a.bank.no ++ f2 a.iCeiling ++
    f4 a.throughput ++ f2 a.fullCounter ++ f2 a.cutCounter ++ f2 a.recoveryCounter ++ f2 a.hardPath.no

/-- A restore candidate: none, a dim step, or a record number (R88). -/
def candidateField : Candidate → List Byte
  | .none => absent
  | .dim d => f2 d
  | .record r => f2 r.val

/-- Allocation item (R91). -/
def State.allocationItem (s : State) : List Byte :=
  let one := fun (x : ClassAlloc) => f2 x.demand ++ f2 x.grant ++ f2 x.dim ++ candidateField x.cand ++ f2 x.counter
  let a := s.alloc
  f2 a.pool ++ f2 a.hBank ++ f2 a.taper ++ f2 a.d3 ++ one a.cls.c0 ++ one a.cls.c1 ++ one a.cls.c2

/-- Charge item (R26). -/
def State.chargeItem (s : State) : List Byte :=
  let c := s.chg
  f2 c.permission.no ++ f2 (listedFirst c.absorb) ++ f2 (flag c.shoreEn) ++ f2 (flag c.solarEn) ++ f2 (flag c.altEn) ++
    f2 c.altTimer ++ f2 (listedFirst c.warmerReq) ++ f2 (listedFirst c.warmerDrop) ++ f2 c.iIn

/-- Heater item (R109). T_CABIN is absent until a sweep has been processed (DEDUCED, log 20). -/
def State.heaterItem (s : State) : List Byte :=
  let c := s.clim
  f2 c.mode.no ++ f2 c.modeBy.no ++ f2 c.setpoint ++ f2 c.setpointBy.no ++ fOpt c.effective ++ f2 (listedFirst c.call) ++
    f2 c.heater.no ++ f2 c.failCount ++ f2 c.startTimer ++ f2 c.coolTimer ++ f2 (listedFirst c.faultMark) ++
    f2 (flag s.heatReq) ++ f2 (flag s.mu.flame) ++ f2 (flag s.mu.htrFlt) ++ fOptInt c.tCabin

/-- Drain item (R109). T_VALVE is absent until a sweep has been processed since power-on (DEDUCED, log 20). -/
def State.drainItem (s : State) : List Byte :=
  f2 s.clim.drain.no ++ f2 s.clim.openCause.no ++ f2 (s.driveLevel 2) ++ fOptInt s.clim.tValve

/-- Water item (R122). -/
def State.waterItem (s : State) : List Byte :=
  let w := s.water
  f2 w.ratio ++ f2 w.rawLevel ++ f2 w.level ++ f2 w.band.no ++ f2 (listedFirst w.held) ++ f2 w.greyLevel ++
    f2 (listedFirst w.greyFull) ++ f2 (flag s.mu.g25) ++ f2 (flag s.mu.g50) ++ f2 (flag s.mu.g75) ++
    f2 (flag s.mu.g100) ++ f2 w.mode.no ++ f2 w.modeBy.no ++ f2 w.drain.no ++ f2 w.pump.no ++
    f2 (lockCauseNo w.lockCause) ++ f2 w.levelAtLock ++ f2 w.dryTimer ++ f2 (flag s.mu.press) ++
    f2 (s.driveLevel 0) ++ f2 (s.row 0).alloc.no

/-- The fault cause of a motion state. -/
def MotionState.causeOf : MotionState → Option Nat
  | .fault c => some c.no
  | _ => none

/-- The pending direction of a motion state. -/
def MotionState.pendDir : MotionState → Option Dir
  | .pause (.outward _) => some .outward
  | .pause .inward => some .inward
  | _ => none

/-- The target of the pending direction. A pending IN has none (DEDUCED, log 19). -/
def MotionState.pendTarget : MotionState → Option Nat
  | .pause (.outward p) => some p
  | _ => none

/-- Motion item (R140). The wind lock is numbered as listed, active first; the target of a pending IN is absent (DEDUCED,
log 16, log 19). -/
def State.motionItem (s : State) (d : Device) : List Byte :=
  let m := s.mot.get d
  let i := s.inputs d
  f2 m.state.no ++ fOpt m.state.causeOf ++ f2 (dirNo m.state.pendDir) ++ fOpt m.state.pendTarget ++
    f2 (dirNo m.state.dir) ++ f2 (dirNo m.lastDir) ++ f2 m.rest ++ f2 m.runMs ++ f2 (s.posPm d) ++ f2 m.target ++
    f2 m.travel ++ f2 m.stall ++ f2 (s.lamp d).no ++ f2 (flag i.inSw) ++ f2 (flag i.outSw) ++ f2 (flag i.latch) ++
    f2 (flag i.button) ++ f2 (s.driveLevel d.motor) ++ f2 (s.current d.motor) ++
    (match d with
      | .awning => f2 s.wind.speed ++ f2 s.wind.count ++ f2 (listedFirst s.wind.lock) ++ f2 s.wind.timer
      | .step => [])

/-- The dim factor of a record's class as handed on, 1000 for effective class 3 (R144). -/
def State.handedDim (s : State) (r : RecNo) : Nat :=
  match classOf (s.classNow r) with
  | some c => s.light.dims.get c
  | none => 1000

/-- Lighting channel item (R144). -/
def State.lightingItem (s : State) (n : Fin 8) : List Byte :=
  let r := lightRec n
  let x := s.row r
  f2 r.val ++ f2 (s.cfg r).zone.no ++ f2 (s.classNow r) ++ f2 x.wanted ++ f2 x.wantedBy.no ++ f2 x.ordered ++
    fOpt (x.orderSlot.map (·.val)) ++ f2 x.alloc.no ++ f2 x.granted ++ f2 (s.handedDim r) ++ f2 (s.lightTarget n) ++
    f2 (tget s.light.out n) ++ f2 (tget s.set.light.fade n) ++ f2 x.prot.no ++ f2 (s.current r) ++
    f2 (flag (s.set.light.courtesySet.getLsbD n.val)) ++ f2 (flag (decide (s.set.light.stepLight = n)))

/-- Register entry item (R71). -/
def entryItem (e : Entry) : List Byte :=
  f2 e.origin.no ++ f2 e.target ++ f2 e.level ++ f2 e.prec ++ f2 e.hold.no ++ fOpt e.hold.seconds

/-- Register count item (R71). -/
def State.countItem (s : State) : List Byte := f2 s.reg.length ++ f2 (regSize - s.reg.length)

/-- Standing order slot item (R74). -/
def State.slotItem (s : State) (i : Fin 8) : List Byte :=
  let x := tget s.set.slots i
  f2 (flag x.enabled) ++ f2 x.condition.no ++ f2 x.target.val ++ f2 x.action.no ++ f2 x.level ++
    f2 (flag (s.condTrue x.condition)) ++ f2 (flag (s.slotActive i))

/-- Incident group item: each kind of the group, then the level of FAULT_N, low while asserted (R165). -/
def State.groupItem (s : State) (kinds : List (Fin 22)) : List Byte :=
  (kinds.flatMap fun k =>
    f2 (listedFirst (tget s.log.status k)) ++ f2 (tget s.log.count k) ++ f2 (tget s.set.severity k).no ++
      f2 (flag (s.set.faultMask.getLsbD k.val))) ++ f2 (listedFirst s.log.faultN)

/-- An origin of a captured incident: the links 0 to 2, LOCAL 3, a block by its open code (log 7). -/
def originField : CapOrigin → List Byte
  | .link l => f2 l.no
  | .button => f2 3
  | .block b => le16 (Config.blockCode b.no)

/-- Capture item (R165). -/
def State.captureItem (s : State) : List Byte :=
  match s.log.capture with
  | none => f2 0 ++ absent ++ absent ++ absent ++ absent ++ absent ++ absent ++ absent ++ absent ++ absent
  | some c =>
    f2 1 ++ f2 c.kind.no.val ++ le16 (Config.blockCode c.block.no) ++ originField c.origin ++ fOpt c.target ++
      (c.bytes.getD (absent ++ absent)) ++ f2 c.socPm ++ f2 (c.time / 65536) ++ f2 (c.time % 65536)

/-- Link item (R158). A speed that is UNKNOWN is sent as absent, and so is the age of the last VEHICLE meanwhile (DEDUCED,
log 16). -/
def State.linkItem (s : State) (l : Link) : List Byte :=
  let c := s.set.links.get l
  let k := s.lk l
  f2 c.standing.no ++ f2 k.live.no ++ f2 c.membership.toNat ++ f2 c.ceiling ++ f2 (flag c.configRight) ++
    f2 c.silenceMode.no ++ f2 c.shortN ++ f2 c.longN ++ fOpt (k.timer.map (· / 250)) ++ le16 k.pending ++ le16 k.mask ++
    f2 k.echo.toNat ++ f2 (listedFirst k.condition) ++ f2 k.rxQueue.length ++
    (match l with
      | .c => f2 s.set.node ++ fOpt s.vehicle.speed ++ fOpt (s.vehicle.speed.map fun _ => s.vehicle.age)
      | _ => [])

/-- Self-test results item (R54). -/
def State.testItem (s : State) : List Byte :=
  let seq := match s.test.seq with
    | .idle => f2 0 ++ absent
    | .running slot _ => f2 1 ++ f2 slot.val
  seq ++ s.test.results.toList.flatMap fun r => f2 r.no

/-- Settings state item (R168). -/
def State.storeItem (s : State) : List Byte :=
  f2 s.store.image.no ++ f2 (flag s.store.modified) ++ f2 (flag s.store.saving.isSome)

/-- The content of an item (R158); none for an unknown item or an index out of its range (DEDUCED, log 16). -/
def State.itemContent (s : State) (item index : Nat) : Option (List Byte) :=
  match item with
  | 0x00 => (recOf index).map s.recordItem
  | 0x01 => some s.accountItem
  | 0x02 => some s.allocationItem
  | 0x03 => some s.chargeItem
  | 0x04 => some s.heaterItem
  | 0x05 => some s.drainItem
  | 0x06 => some s.waterItem
  | 0x07 => match index with
    | 0 => some (s.motionItem .awning)
    | 1 => some (s.motionItem .step)
    | _ => none
  | 0x08 => (fin8Of index).map s.lightingItem
  | 0x09 => (s.reg[index]?).map entryItem
  | 0x0A => some s.countItem
  | 0x0B => (fin8Of index).map s.slotItem
  | 0x0C => (groupKinds index).map s.groupItem
  | 0x0D => some s.captureItem
  | 0x0E => (linkOf index).map s.linkItem
  | 0x0F => some s.testItem
  | 0x10 => some s.storeItem
  | _ => none

/-- An item that is read by an index; the index of any other item is not used. -/
def hasIndex (item : Byte) : Bool :=
  item == 0x00 || item == 0x07 || item == 0x08 || item == 0x09 || item == 0x0B || item == 0x0C || item == 0x0E

/-- The index of a READ as its item uses it. -/
def indexFor (item index : Byte) : Byte := if hasIndex item then index else 0

/-! ### Parts and snapshots -/

/-- The number of parts of a content (R158). -/
def partCount (content : List Byte) : Nat := (content.length + 3) / 4

/-- Part `k` of a content, the last part padded with 0. -/
def partOf (content : List Byte) (k : Nat) : List Byte :=
  ([0, 1, 2, 3] : List Nat).map fun i => content.getD (4 * k + i) 0

/-- The answer of a READ of part `k` of a content. -/
def readReply (content : List Byte) (k : Nat) : Reply :=
  if k < partCount content then Reply.with .ok (byteOf (partCount content) :: partOf content k)
  else Reply.plain .badValue

/-- R158: READ. -/
def State.takeRead (l : Link) (item index part : Byte) (s : State) : State × Reply :=
  let i := indexFor item index
  if part = 0 then
    match s.itemContent item.toNat i.toNat with
    | some content =>
      (s.modLink l fun k => { k with snapshot := some { item := item, index := i, content := content } },
        readReply content 0)
    | none => (s, Reply.plain .badValue)
  else
    match (s.lk l).snapshot with
    | some x => if x.item = item ∧ x.index = i then (s, readReply x.content part.toNat) else (s, Reply.plain .badValue)
    | none => (s, Reply.plain .badValue)

end Sys2Proof.Machine
end

