-- ==== Sys2Proof/Machine/Owners.lean ====
section
/-!
DEFINITION. What the owner of each request does with it and answers (R155 step 8), and the group resets.
-/

namespace Sys2Proof.Machine

/-! ### Membership -/

/-- A zone is in the link's membership. -/
def State.admits (s : State) (l : Link) (z : Zone) : Bool := (s.set.links.get l).membership.getLsbD z.no

/-- Zone of a target (R57): the zone setting of a record, SERVICE for targets 22 to 24. -/
def State.targetZone (s : State) (t : Nat) : Zone :=
  match recOf t with
  | some r => (s.cfg r).zone
  | none => .service

/-! ### Demand register -/

/-- The hold of a hold code with its seconds brought into range (R60); none for any other code. -/
def holdOf (code secs : Nat) : Option (Hold × Bool) :=
  match code with
  | 0 => some (.persist, false)
  | 1 => some (.timed (clampNat 1 65534 secs), decide (secs < 1 ∨ 65534 < secs))
  | 2 => some (.tethered, false)
  | _ => none

/-- R59: the check that refuses a PLACE, none where it goes on. -/
def State.placeCheck (s : State) (l : Link) (target hold : Nat) : Option Reply :=
  if 24 < target then some (Reply.plain .badTarget)
  else if s.admits l (s.targetZone target) = false then some (Reply.forbidden .demandRegister (some target))
  else if functionOwned target then some (Reply.plain .functionOwned)
  else if 2 < hold then some (Reply.plain .badValue)
  else none

/-- R60: the entry brought into range, and whether a value was clamped. -/
def State.rangedEntry (s : State) (l : Link) (target level prec : Nat) (hold : Hold × Bool) : Entry × Bool :=
  let ceiling := (s.set.links.get l).ceiling
  ({ origin := l.origin, target := target, level := (levelFor target level).1, prec := min ceiling prec
     hold := hold.1 },
    decide (ceiling < prec) || (levelFor target level).2 || hold.2)

/-- R59 to R61: PLACE. -/
def State.takePlace (l : Link) (target level prec hold secs : Nat) (s : State) : State × Reply :=
  match s.placeCheck l target hold, holdOf hold secs with
  | some r, _ => (s, r)
  | none, none => (s, Reply.plain .badValue)
  | none, some h =>
    let e := s.rangedEntry l target level prec h
    match placeIn s.reg e.1 with
    | none => (s, Reply.plain .registerFull)
    | some es => (s.regApply es [e.1.origin], Reply.with (okOr e.2) [byteOf es.length, byteOf (es.length - 1)])

/-- R63: the entries that `f` names are withdrawn; the reply carries their number and the number held afterwards. -/
def State.takeWithdrawal (f : Entry → Bool) (s : State) : State × Reply :=
  let t := s.removeEntries f
  (t, Reply.with .ok [byteOf (s.reg.filter f).length, byteOf t.reg.length])

/-- R63: WITHDRAW. -/
def State.takeWithdraw (l : Link) (target : Nat) (s : State) : State × Reply :=
  if 24 < target then (s, Reply.plain .badTarget) else s.takeWithdrawal (Entry.is l.origin target)

/-- R63: WITHDRAW_ALL. -/
def State.takeWithdrawAll (l : Link) (s : State) : State × Reply := s.takeWithdrawal fun e => e.origin == l.origin

/-! ### Scenes (R146) -/

/-- The entries of a scene recalled by a link, in list order, with R60 for each. -/
def State.sceneEntries (s : State) (l : Link) (ps : List ScenePair) (prec : Nat) (hold : Hold × Bool) :
    List (Entry × Bool) :=
  ps.map fun p => s.rangedEntry l (12 + p.channel.val) p.level prec hold

/-- R146: SCENE. -/
def State.takeScene (l : Link) (n prec hold secs : Nat) (s : State) : State × Reply :=
  match fin8Of n, holdOf hold secs with
  | none, _ => (s, Reply.plain .badValue)
  | some _, none => (s, Reply.plain .badValue)
  | some i, some h =>
    let ps := tget s.set.light.scenes i
    if ps.isEmpty then (s, Reply.with .ok [0, byteOf s.reg.length])
    else if ps.any (fun p => !(s.admits l (s.cfg (lightRec p.channel)).zone)) = true then
      (s, Reply.forbidden .lighting none)
    else
      let es := s.sceneEntries l ps prec h
      match placeGroup s.reg (es.map (·.1)) with
      | none => (s, Reply.plain .registerFull)
      | some reg =>
        (s.regApply reg [l.origin],
          Reply.with (okOr (es.any (·.2))) [byteOf ps.length, byteOf reg.length])

/-! ### Motion -/

/-- The device of a device code. -/
def deviceOfCode (code : Byte) : Option Device :=
  if code = 0 then some .awning else if code = 1 then some .step else none

/-- The target that a MOTION request names (R155). -/
def motorTarget (code : Byte) : Option Nat := (deviceOfCode code).map fun d => d.motor.val

/-- R128: a MOTION request; `c` is none where the command code names no command. -/
def State.takeMotion (l : Link) (device : Byte) (c : Option MotionCmd) (s : State) : State × Reply :=
  if s.admits l .exterior = false then (s, Reply.forbidden .motion (motorTarget device))
  else
    match deviceOfCode device, c with
    | none, _ => (s, Reply.plain .badTarget)
    | some _, none => (s, Reply.plain .badValue)
    | some d, some (.extendTo p) =>
      if d = .step then (s, Reply.plain .badTarget)
      else
        let r := s.motionCommand d (.extendTo (min 1000 p)) (.link l)
        (r.1, Reply.plain (if 1000 < p ∧ r.2.isTaken = true then .clamped else r.2))
    | some d, some c => let r := s.motionCommand d c (.link l); (r.1, Reply.plain r.2)

/-- R134: CLEAR of a motion device. -/
def State.takeClearMotion (l : Link) (index : Byte) (s : State) : State × Reply :=
  match deviceOfCode index with
  | none => (s, Reply.plain .badValue)
  | some d =>
    if s.admits l .exterior = false then (s, Reply.forbidden .motion (some d.motor.val))
    else match (s.mot.get d).state with
      | .fault _ => (s.recompute d, Reply.plain .ok)
      | _ => (s, Reply.plain .ok)

/-! ### Channel protection -/

/-- R49: CLEAR of a load record. -/
def State.takeClearRecord (l : Link) (index : Nat) (s : State) : State × Reply :=
  match recOf index with
  | none => (s, Reply.plain .badValue)
  | some r =>
    if s.admits l (s.cfg r).zone = false then (s, Reply.forbidden .channelProtection (some index))
    else if 20 ≤ index then (s, Reply.plain .badTarget)
    else (s.clearChannel r, Reply.plain .ok)

/-- R52: SELFTEST. -/
def State.takeSelftest (l : Link) (s : State) : State × Reply :=
  if s.admits l .service = false then (s, Reply.forbidden .channelProtection none)
  else if s.test.seq ≠ .idle then (s, Reply.plain .busy)
  else if s.cut then (s, Reply.plain .bankCut)
  else (s.startSlot 0, Reply.plain .accepted)

/-! ### Energy account, climate, water -/

/-- R11: SET_CHARGE. -/
def State.takeSetCharge (pm : Nat) (s : State) : State × Reply :=
  (s.publishAccount (s.acct.setCharge (min 1000 pm)), Reply.plain (okOr (decide (1000 < pm))))

/-- R103: what a CLEAR of the heater does. -/
def State.clearHeater (s : State) : State :=
  let t : State := { s with clim := { s.clim with failCount := 0 } }
  if s.clim.heater = .lockout then t.heaterOff else t

/-- R103: CLEAR of the heater. -/
def State.takeClearHeater (l : Link) (s : State) : State × Reply :=
  if s.admits l .service = false then (s, Reply.forbidden .climate none) else (s.clearHeater, Reply.plain .ok)

/-- R107: T_VALVE below 14, or no sweep processed yet. -/
def State.valveCold (s : State) : Bool :=
  match s.clim.tValve with
  | some t => decide (t < 14)
  | none => true

/-- R107: CLOSE_DRAIN. -/
def State.takeCloseDrain (l : Link) (s : State) : State × Reply :=
  if s.admits l .service = false then (s, Reply.forbidden .climate none)
  else if s.clim.drain = .closed then (s, Reply.plain .ok)
  else if s.cut then (s, Reply.plain .bankCut)
  else if (s.row 2).prot ≠ .normal then (s, Reply.plain .interlock)
  else if s.valveCold = true ∧ s.clim.heater ≠ .run then (s, Reply.plain .interlock)
  else (s.shutDrain, Reply.plain .accepted)

/-- R121: CLEAR of the pump. -/
def State.takeClearPump (l : Link) (s : State) : State × Reply :=
  if s.admits l .service = false then (s, Reply.forbidden .water none) else (s.pumpRelease, Reply.plain .ok)

/-! ### Incident log and settings store -/

/-- R166: the kinds of a group cleared; SETTINGS_LOAD is exempt. -/
def Log.clearGroup (kinds : List (Fin 22)) (g : Log) : Log :=
  kinds.foldl (fun h k => if k = Incident.settingsLoad.no then h else h.clearKind k) g

/-- R166: CLEAR of an incident group. -/
def State.takeClearGroup (index : Nat) (s : State) : State × Reply :=
  match groupKinds index with
  | none => (s, Reply.plain .badValue)
  | some kinds => (({ s with log := s.log.clearGroup kinds } : State).formFaultN, Reply.plain .ok)

/-- R166: CLEAR of the capture. -/
def State.takeClearCapture (s : State) : State × Reply :=
  ({ s with log := { s.log with capture := none } }, Reply.plain .ok)

/-- R169: SAVE. -/
def State.takeSave (s : State) : State × Reply :=
  if s.store.saving.isSome then (s, Reply.plain .busy)
  else ({ s with store := { s.store with saving := some s.set } }, Reply.plain .accepted)

/-! ### Group resets (R171) -/

/-- R111: the climate controller's part of the CLIMATE reset. -/
def State.climateReset (s : State) : State :=
  let t : State := { s with clim := { s.clim with failCount := 0 } }
  match s.clim.heater with
  | .start => t.heaterCool false 0
  | .run => t.heaterCool false 0
  | .coolDown => { t with clim := { t.clim with faultMark := false } }
  | .lockout => t.heaterOff
  | _ => t

/-- R51, R93: LOADS. Channel protection's part, then the allocator's, with nothing between (DESIGN CHOICE, log 36). -/
def State.loadsReset (s : State) : State := s.protectionReset.allocReset

/-- R111, R121: CLIMATE. The climate controller's part, then the water controller's, with nothing between (DESIGN CHOICE,
log 36). -/
def State.climateGroupReset (s : State) : State := s.climateReset.pumpRelease

/-- R141: MOTION. Controller A, then controller S, with nothing between (DESIGN CHOICE, log 36). -/
def State.motionGroupReset (s : State) : State := (s.motionReset .awning).motionReset .step

/-- R171: a group reset answers OK once every owner has taken its part. -/
def takeReset (f : State → State) (s : State) : State × Reply := (f s, Reply.plain .ok)

/-! ### Frames of no other row -/

/-- R155: a CLEAR whose object code is above 5, or a RESET_GROUP whose group code is above 4 (R171). -/
def takeBadCode (s : State) : State × Reply := (s, Reply.plain .badValue)

/-- The owner of a frame that names no other row: a MOTION of no command (R128), a CLEAR of no object, a RESET_GROUP
of no group. A kind outside 0x01..0x10 is refused before any owner. -/
def State.takeOther (l : Link) (f : Frame) (s : State) : State × Reply :=
  if f.kind = 0x04 then s.takeMotion l f.b2 none else takeBadCode s

end Sys2Proof.Machine
end

