-- ==== Sys2Proof/Machine/Startup.lean ====
section
/-!
DEFINITION. Power-on, RST_N, the settings load and the entry to RUN (R168, R170), the end of a save (R169) and the
start-up clock (R165).
-/

namespace Sys2Proof.Machine

/-! ### Power-on and RST_N (R170) -/

/-- Power-on: every block takes its power-on values. The commands still to come and the record of the frames sent are
the model's own and stay. -/
def State.powerOn (s : State) : State :=
  { State.reset with
    pending := s.pending
    links :=
      { c := LinkState.reset defaultLinks.c s.links.c.sent
        p := LinkState.reset defaultLinks.p s.links.p.sent
        t := LinkState.reset defaultLinks.t s.links.t.sent } }

/-- R55: the records at RST_N: a switched record whose kept self-test result is FAIL is UNPROTECTED. -/
def keptRow (results : Vector TestResult 13) (r : RecNo) : LoadRec :=
  let x := tget resetTab r
  if r.val < 12 ∧ results.toList.getD r.val .none = .fail then { x with prot := .unprotected } else x

def keptTab (results : Vector TestResult 13) : Vector LoadRec 22 := Vector.ofFn (keptRow results)

/-- R110: the climate controller at RST_N: the drain state, its cause and its drive are kept. -/
def Climate.kept (c : Climate) (drive : Bool) : Climate :=
  { Climate.powerOn with drain := c.drain, openCause := c.openCause, heldDrive := some drive, tValve := c.tValve }

/-- RST_N is driven low: the retained domain stays, every other block takes its reset values (DEDUCED, log 22). -/
def State.rstLow (s : State) : State :=
  { pending := s.pending
    phase := .resetLow
    mu := s.mu
    prev := s.prev
    acct := s.acct
    chg := Charge.reset
    set := Settings.default
    inForce := Settings.default.inForce
    tab := keptTab s.test.results
    test := { seq := .idle, results := s.test.results, discard := s.test.discard }
    reg := []
    alloc := Alloc.reset
    clim := s.clim.kept (s.driveOn 2)
    water := Water.reset
    mot := { awning := Motion.reset 0, step := Motion.reset 0 }
    wind := { Wind.reset with pulses := s.wind.pulses }
    light := Light.reset
    links :=
      { c := LinkState.reset defaultLinks.c s.links.c.sent
        p := LinkState.reset defaultLinks.p s.links.p.sent
        t := LinkState.reset defaultLinks.t s.links.t.sent }
    can := { replies := [], node := 0 }
    vehicle := { speed := none, age := 0 }
    log := { s.log with clock := 0 }
    store := { image := .defaults, modified := false, saving := none }
    handling := none }

/-- RST_N is released: LOADING begins, the start-up clock at 0, and RESET_SEEN is raised. -/
def State.rstRelease (s : State) : State :=
  ({ s with phase := .loading true, log := { s.log with clock := 0 } } : State).raiseIncident .resetSeen .incidentLog none

/-! ### The settings load (R168) -/

/-- R20: the account at the first load since power-on. -/
def Account.firstLoad (live : AcctSettings) (a : Account) : Account :=
  { a with
    loaded := true
    copy := live
    q := live.cNomMas / 2
    cEff := live.cNomMas
    effReserve := min 700 (live.reservePm + 100) }

/-- R2, R21: a chemistry other than the account's copy brings η and V_full their default settings. -/
def chemistryOnLoad (a : Account) (cfg : Settings) : Settings :=
  if a.loaded = true ∧ cfg.acct.chemistry ≠ a.copy.chemistry then
    { cfg with
      acct := { cfg.acct with eta := defaultEta cfg.acct.chemistry, vFull := defaultVFull cfg.acct.chemistry } }
  else cfg

/-- R20, R21: the account takes the loaded settings. -/
def State.loadAccount (s : State) : State :=
  if s.acct.loaded then s.accountSettings else { s with acct := s.acct.firstLoad s.set.acct }

/-- R168: the settings of an accepted image, or the default settings, and the settings store's report. -/
def State.takeLoad (image : Option Settings) (s : State) : State :=
  let cfg := chemistryOnLoad s.acct (image.getD Settings.default)
  let s0 : State :=
    { s with
      set := cfg
      inForce := cfg.inForce
      store := { s.store with image := if image.isSome then .valid else .defaults, modified := false } }
  if image.isSome then { s0 with log := s0.log.clearKind Incident.settingsLoad.no }
  else s0.raiseIncident .settingsLoad .settingsStore none

/-- R162: a link takes its standing, mask and echo set from the live settings. -/
def LinkState.load (cfg : LinkSettings) (k : LinkState) : LinkState :=
  { k with live := cfg.standing.live, mask := cfg.eventMask, echo := cfg.echo }

def State.loadLinks (s : State) : State :=
  let one := fun (l : Link) (t : State) => t.modLink l (LinkState.load (t.set.links.get l))
  { one .t (one .p (one .c s)) with can := { s.can with node := s.set.node } }

/-! ### Entry to RUN (R170) -/

/-- R161, R164: RUN begins; an attention condition that holds counts as a change, and FAULT_N is formed. -/
def State.beginRun (s : State) : State :=
  ({ s with
      phase := .run
      links := { s.links with c := s.links.c.announce .c s.can.node false (s.links.c.attention true) } } :
    State).formFaultN

/-- R110, R123: the climate controller hands on the wanted levels of records 1 and 2 and the drain state; charge
control hands on that of record 10 (R55). -/
def State.handFunctions (s : State) : State :=
  (((s.setWanted 1 (heaterWanted s.clim.heater) .function).setWanted 2 (if s.clim.drain = .closed then 1000 else 0)
    .function).setWanted 10 (if s.chg.warmerReq then 1000 else 0) .function).handDrain s.clim.drain

/-- R77: every record 3 to 19 is evaluated. -/
def State.evalAll (s : State) : State := orderRecs.foldl (fun t r => t.evalOrder r) s

/-- R170: each block performs its entry to RUN (DESIGN CHOICE for the order, log 31). -/
def State.enterRun (s : State) : State :=
  let t := s.beginRun.handAll.handFunctions.evalAll
  ((((t.recomputeWith false .awning).recomputeWith false .step).restartTimer .c).restartTimer .p).restartTimer .t

/-- R168, R170: the load completes, the live settings are distributed and the part enters RUN. -/
def State.loadDone (image : Option Settings) (s : State) : State :=
  match s.phase with
  | .loading _ => ((s.takeLoad image).loadAccount.loadLinks).enterRun
  | _ => s

/-! ### The end of a save (R169) -/

/-- R169: the image read back matches, or not. -/
def State.saveDone (ok : Bool) (s : State) : State :=
  let t : State :=
    { s with
      store :=
        { image := if ok then .valid else .defaults
          modified := s.store.modified && !ok
          saving := none } }
  let u :=
    if ok then ({ t with log := t.log.clearKind Incident.settingsLoad.no } : State).formFaultN
    else t.raiseIncident .settingsLoad .settingsStore none
  u.raise .energy

/-! ### Meanings -/

/-- R170. -/
def execPowerOn (s : State) : Host.Outcome State Fault Refusal := .next s.powerOn

/-- R170: RST_N falls; while it is low already nothing falls. -/
def execRstNAssert (s : State) : Host.Outcome State Fault Refusal := .next (if s.awake then s.rstLow else s)

/-- R170: RST_N rises; where it is not low nothing rises. -/
def execRstNRelease (s : State) : Host.Outcome State Fault Refusal := .next (if s.awake then s else s.rstRelease)

/-- R168: the store has read the image and accepts or rejects it. -/
def execSettingsLoadCompletion (image : List Byte) (s : State) : Host.Outcome State Fault Refusal :=
  .next (s.loadDone (parseImage image))

/-- R168: the EEPROM does not answer. -/
def execSettingsLoadTimeout (s : State) : Host.Outcome State Fault Refusal := .next (s.loadDone none)

/-- R169: a running save ends; none runs outside RUN. -/
def execSaveCompletion (readBack : Option (List Byte)) (s : State) : Host.Outcome State Fault Refusal :=
  .next (match s.store.saving with
    | some cfg => s.saveDone (decide (readBack = some (imageOf cfg)))
    | none => s)

/-- R165: one second more on the start-up clock, held at 0 while RST_N is low. -/
def execStartUpClockTick (s : State) : Host.Outcome State Fault Refusal :=
  .next (if s.awake then { s with log := { s.log with clock := min 4294967295 (s.log.clock + 1) } } else s)

end Sys2Proof.Machine
end

