-- ==== Sys2Proof/Machine/Sweep.lean ====
section
/-!
DEFINITION. The sweep completion: the measurement unit publishes, then each block processes the sweep (R4, R22, R45,
R79, R96, R113, R126, R143), in the order the command gives (log 3).
-/

/-! ### Publication -/

namespace Sys2Proof

open Sys2Proof.Machine

/-- The general ranges of chapter 0, R3, R44, R113 (DEDUCED, log 28). -/
def Sweep.inRange (m : Sweep) : Sweep :=
  { m with
    shunt := clampInt (-32768) 32767 m.shunt
    bankV := min 20000 m.bankV
    minV := min (min 20000 m.bankV) m.minV
    tBank := clampInt (-80) 170 m.tBank
    chargeIn := clampInt 0 32767 m.chargeIn
    tCabin := clampInt (-80) 170 m.tCabin
    tValve := clampInt (-80) 170 m.tValve
    tOut := clampInt (-80) 170 m.tOut
    starterV := min 20000 m.starterV
    sender := min 1000 m.sender
    currents := m.currents.map (min 32767) }

end Sys2Proof

namespace Sys2Proof.Machine

/-- R30: the charge-input current of a sweep, from its sample and the enables at its completion. -/
def Charge.inputCurrent (c : Charge) (sample : Int) : Nat := if c.anyOn then sample.toNat else 0

/-- The measurements take effect: the sweep before is kept for the edges, I_in is fixed, and the settings that act from
a sweep completion are met (R36, R124). -/
def State.measure (m : Sweep) (s : State) : State :=
  { s with
    prev := s.mu
    mu := m
    inForce := { s.inForce with rated := s.set.recs.map (·.rated), tFull := s.set.motion.tFull }
    chg := { s.chg with iIn := s.chg.inputCurrent m.chargeIn } }

/-- Time on the running timers that end by commands of their own: silence timers and vehicle age (R157, R160)
(DEDUCED, log 10). -/
def State.passTime (s : State) : State :=
  { s with
    links := { c := s.links.c.elapse, p := s.links.p.elapse, t := s.links.t.elapse }
    vehicle := { s.vehicle with age := if s.vehicle.speed.isSome then max s.vehicle.age (min 19 (s.vehicle.age + 1)) else s.vehicle.age } }

/-- R74: the conditions whose truth the sweep may have changed. -/
def State.publishConditions (s : State) : State :=
  let a := s.prev
  let b := s.mu
  ((((s.evalConditionIf (a.ign != b.ign) .ignitionOn).evalConditionIf (a.engine != b.engine)
    .engineRunning).evalConditionIf (a.shore != b.shore) .shorePresent).evalConditionIf
      (decide (a.tBank < 0) != decide (b.tBank < 0)) .bankCold).evalConditionIf (a.door != b.door) .cabinDoorOpen

/-- A sweep completes: publication, the VEHICLE event of R160, the standing order conditions. -/
def State.publish (m : Sweep) (s : State) : State :=
  let t := (s.measure m.inRange).passTime
  (t.raiseIf (t.prev.ign != t.mu.ign || t.prev.engine != t.mu.engine) .vehicle).publishConditions

/-! ### The blocks -/

/-- One block processes the sweep. -/
def State.runBlock (s : State) : SweepBlock → State
  | .account => s.accountSweep
  | .charge => s.chargeSweep
  | .allocator => s.allocPass
  | .protection => s.protectionSweep
  | .climate => s.climateSweep
  | .water => s.waterSweep
  | .motionA => s.motionSweep .awning
  | .motionS => s.motionSweep .step
  | .lighting => s.lightingSweep

/-- The order of the blocks that a command does not name: the account, then the pass, as in the manual's worked cases
(DESIGN CHOICE, log 3). -/
def defaultOrder : List SweepBlock :=
  [.account, .allocator, .charge, .protection, .climate, .water, .motionA, .motionS, .lighting]

/-- Each block once: in the order given, then the blocks not named. -/
def normalOrder (order : List SweepBlock) : List SweepBlock :=
  let first := order.eraseDups
  first ++ defaultOrder.filter fun b => !(first.contains b)

/-- R3: the discarding of the hard report ends with the sweep unless slot 12 still runs (DEDUCED, log 29). -/
def SelfTest.sweepEnd (t : SelfTest) : SelfTest :=
  { t with
    discard := match t.seq with
      | .running slot _ => slot.val == 12
      | .idle => false }

/-- One sweep completion. -/
def State.sweep (m : Sweep) (order : List SweepBlock) (s : State) : State :=
  let t := (normalOrder order).foldl State.runBlock (s.publish m)
  { t with test := t.test.sweepEnd }

/-- R4: a sweep completion. -/
def execSweepCompletion (m : Sweep) (order : List SweepBlock) (s : State) : Host.Outcome State Fault Refusal :=
  .next (s.sweep m order)

end Sys2Proof.Machine
end

