-- ==== Sys2Proof/Machine/Expiry.lean ====
section
/-!
DEFINITION. The counters and timers that reach their ends. A counter that sweeps count stands one short of its limit
when its row is taken; the row is the last count and what follows it. Anywhere else the event does not occur and the
row leaves the part as it is (log 1). Timers of real time, which no sweep counts, end by their row alone.
-/

namespace Sys2Proof.Machine

/-! ### Energy account and charge control -/

/-- R14, R16. -/
def execCutCounterExpiry (s : State) : Host.Outcome State Fault Refusal :=
  .next (if s.acct.loaded = true ∧ s.acct.bank ≠ .cut ∧ s.mu.bankV < vCut s.acct.copy.chemistry ∧
        50 ≤ s.acct.cutCounter + 1 then
      s.publishAccount s.acct.cutState
    else s)

/-- R17, R30: a source is enabled and charges, and the bank stands above the recovery threshold. -/
def State.recovers (s : State) : Bool :=
  decide (vCut s.acct.copy.chemistry + 500 < s.mu.bankV) && decide (0 < s.chg.iIn) && s.chg.anyOn

/-- R17, with I_ceiling computed again (R18). With every source off I_in is 0 and the counter cannot advance (R30). -/
def execRecoveryCounterExpiry (s : State) : Host.Outcome State Fault Refusal :=
  .next (if s.acct.loaded = true ∧ s.acct.bank = .cut ∧ s.recovers = true ∧ 100 ≤ s.acct.recoveryCounter + 1 then
      s.publishAccount (s.acct.recovered.step7 s.mu.tBank)
    else s)

/-- R9, R10, R25 (DEDUCED, log 26). The full condition is tested on the measurements of the last sweep (DEDUCED, log 1). -/
def execFullDetection (s : State) : Host.Outcome State Fault Refusal :=
  .next (if s.acct.loaded = true ∧ s.acct.completes s.mu.shunt s.mu.bankV = true then
      (s.publishAccount s.acct.complete).handCompletion
    else s)

/-- R27, R28. -/
def execAltDelayExpiry (s : State) : Host.Outcome State Fault Refusal :=
  .next (if s.isRun = true ∧ s.mu.engine = true ∧ s.chg.altTimer + 1 = s.set.charge.altDelay * 10 then
      ({ s with chg := { s.chg with altTimer := s.chg.altTimer + 1 } } : State).chargeStep4
    else s)

/-! ### Allocator and channel protection -/

/-- R88. -/
def execRestore (c : LoadClass) (s : State) : Host.Outcome State Fault Refusal :=
  .next (if s.restoreDue c = true then s.restoreNow c else s)

/-- R45: a sweep with current `m` takes the bucket of a driven record above its limit. While RST_N is low channel
protection holds its reset values (R170) (DEDUCED, log 23). -/
def State.overloads (s : State) (r : RecNo) (m : Nat) : Bool :=
  s.awake && decide (r.val < 20) && (s.row r).prot == .normal && s.driveOn r &&
    decide ((s.cfg r).rated * 20 < nextBucket (s.row r).bucket m (s.cfg r).rated)

/-- R45, R47. -/
def execOverloadTrip (r : RecNo) (m : Nat) (s : State) : Host.Outcome State Fault Refusal :=
  .next (if s.overloads r m = true then s.bucketSweep r m else s)

/-- R46: the comparator of a driven switched channel, not under test, meets a current above its threshold, which a new
rated current moves from the next sweep completion (R36) (DEDUCED, log 33). -/
def State.shorts (s : State) (r : RecNo) (m : Nat) : Bool :=
  s.awake && decide (r.val < 12) && (s.row r).prot == .normal && s.driveOn r && !(s.underTest r) &&
    decide (shortThreshold (tget s.inForce.rated r) < m)

/-- R46, R47. -/
def execShortCircuit (r : RecNo) (m : Nat) (s : State) : Host.Outcome State Fault Refusal :=
  .next (if s.shorts r m = true then s.trip r .short else s)

/-- R48. -/
def execRetryTimerExpiry (r : RecNo) (s : State) : Host.Outcome State Fault Refusal :=
  .next (if (s.row r).prot = .retryWait ∧ (s.row r).retryTimer ≤ 1 then s.retryDone r else s)

/-- R48. -/
def execQuietTimerExpiry (r : RecNo) (s : State) : Host.Outcome State Fault Refusal :=
  .next (if r.val < 20 ∧ (s.row r).prot = .normal ∧ 599 ≤ (s.row r).quiet then
      s.modRec r fun x => { x with quiet := 600, retryCount := 0 }
    else s)

/-- R53, R54. -/
def execSelftestSlotEnd (answered : Bool) (s : State) : Host.Outcome State Fault Refusal := .next (s.slotEnd answered)

/-! ### Climate and water -/

/-- R98. -/
def execStartTimerExpiry (s : State) : Host.Outcome State Fault Refusal :=
  .next (if s.isRun = true ∧ s.clim.heater = .start ∧ s.clim.startTimer ≤ 1 then s.heaterCool false 1 else s)

/-- R101. -/
def execCoolDownTimerExpiry (s : State) : Host.Outcome State Fault Refusal :=
  .next (if s.isRun = true ∧ s.clim.heater = .coolDown ∧ s.clim.coolTimer ≤ 1 then
      ({ s with clim := { s.clim with coolTimer := 0 } } : State).heaterCoolEnd
    else s)

/-- R119. -/
def execDryRunTimerExpiry (s : State) : Host.Outcome State Fault Refusal :=
  .next (if s.isRun = true ∧ s.water.pump = .running ∧ s.driveOn 0 = true ∧
        s.set.water.dryLimit * 10 ≤ s.water.dryTimer + 1 then
      s.pumpDry
    else s)

/-! ### Motion -/

/-- R130. -/
def execPauseEnd (d : Device) (s : State) : Host.Outcome State Fault Refusal :=
  .next (match (s.mot.get d).state with
    | .pause p =>
      if s.isRun = true ∧ 4 ≤ (s.mot.get d).rest then (s.modMotion d fun m => { m with rest := 5 }).endPause d p else s
    | _ => s)

/-- R131. -/
def execTravelTimeout (d : Device) (s : State) : Host.Outcome State Fault Refusal :=
  .next (if s.isRun = true ∧ (s.mot.get d).state.dir.isSome = true ∧
        s.set.motion.tFull.get d * 15 ≤ (s.mot.get d).travel + 1 then
      (s.modMotion d fun m => { m with travel := min 900 (m.travel + 1) }).timeoutFault d
    else s)

/-- R132: the counter counts on sweeps with the bridge on. -/
def execStall (d : Device) (s : State) : Host.Outcome State Fault Refusal :=
  .next (if s.isRun = true ∧ s.driveOn d.motor = true ∧ 2 ≤ (s.mot.get d).stall then
      (s.modMotion d fun m => { m with stall := 3 }).stallFault d
    else s)

/-- R137. The pulse count is the measurement unit's; the controller acts on it from the entry to RUN. -/
def execWindWindowCompletion (pulses : Nat) (s : State) : Host.Outcome State Fault Refusal :=
  .next (if s.isRun = true then s.windWindow pulses else { s with wind := { s.wind with pulses := pulses } })

/-- R137. -/
def execWindStow (s : State) : Host.Outcome State Fault Refusal :=
  .next (if s.isRun = true ∧ s.wind.count = 2 then s.windReached else s)

/-- R137: the lock timer reaches 0 at a window that is not above the limit. -/
def execWindLockTimerExpiry (s : State) : Host.Outcome State Fault Refusal :=
  .next (if s.isRun = true ∧ s.wind.lock = true ∧ s.wind.timer ≤ 1 then
      { s with wind := { s.wind with count := 0, lock := false, timer := 0 } }
    else s)

/-! ### Real time -/

/-- R64: the 1-second timer runs from the entry to RUN. -/
def execOneSecondTimerExpiry (s : State) : Host.Outcome State Fault Refusal :=
  .next (if s.isRun = true then s.oneSecond else s)

/-- R157. -/
def execShortSilence (l : Link) (s : State) : Host.Outcome State Fault Refusal := .next (s.shortExpiry l)

/-- R157. -/
def execLongSilence (l : Link) (s : State) : Host.Outcome State Fault Refusal := .next (s.longExpiry l)

/-- R160: the age timer runs while the speed is known. -/
def execVehicleAgeExpiry (s : State) : Host.Outcome State Fault Refusal :=
  .next (if s.isRun = true ∧ s.vehicle.speed.isSome = true then s.setSpeed none else s)

end Sys2Proof.Machine
end

