-- ==== Sys2Proof/Machine/Reception.lean ====
section
/-!
DEFINITION. The meanings of the reception rows (R152 to R154).
-/

namespace Sys2Proof.Machine

/-- R152: one byte on link P or T. -/
def execUartByteReceived (l : Link) (b : Byte) (s : State) : Host.Outcome State Fault Refusal :=
  .next (if s.receives l = true then s.uartByte l b else s)

/-- R152: the bytes of a whole frame on link P or T, one after the other. -/
def execUartFrameReceived (l : Link) (f : Frame) (crc : Byte) (s : State) : Host.Outcome State Fault Refusal :=
  .next (if s.receives l = true then ([0xA5] ++ f.bytes ++ [crc]).foldl (fun t b => t.uartByte l b) s else s)

/-- R152: the partial frame is abandoned (DEDUCED, log 30). -/
def execFrameGapTimeout (l : Link) (s : State) : Host.Outcome State Fault Refusal :=
  .next (if s.receives l = true then s.modLink l fun k => { k with part := none } else s)

/-- R153. -/
def execCanFrameReceived (id : BitVec 29) (remote : Bool) (data : List Byte) (s : State) :
    Host.Outcome State Fault Refusal :=
  .next (if s.awake = true then s.canFrame id remote data else s)

/-- R153. -/
def execCanReplySent (s : State) : Host.Outcome State Fault Refusal := .next s.canDelivered

end Sys2Proof.Machine
end

