-- ==== Sys2Proof/Machine/Requests.lean ====
section
/-!
DEFINITION. The meanings of the request rows: each is its frame served by its owner (R155).
-/

namespace Sys2Proof.Machine

/-- R59 to R61. -/
def execPlace (l : Link) (tag target : Byte) (level : BitVec 16) (prec hold : BitVec 4) (secs : BitVec 16)
    (s : State) : Host.Outcome State Fault Refusal :=
  .next (s.serve (.place l tag target level prec hold secs)
    (State.takePlace l target.toNat level.toNat prec.toNat hold.toNat secs.toNat))

/-- R63. -/
def execWithdraw (l : Link) (tag target : Byte) (s : State) : Host.Outcome State Fault Refusal :=
  .next (s.serve (.withdraw l tag target) (State.takeWithdraw l target.toNat))

/-- R63. -/
def execWithdrawAll (l : Link) (tag : Byte) (s : State) : Host.Outcome State Fault Refusal :=
  .next (s.serve (.withdrawAll l tag) (State.takeWithdrawAll l))

/-- R128, R129: DEPLOY. -/
def execDeploy (l : Link) (tag device : Byte) (s : State) : Host.Outcome State Fault Refusal :=
  .next (s.serve (.deploy l tag device) (State.takeMotion l device (some .deploy)))

/-- R128, R129: STOW. -/
def execStow (l : Link) (tag device : Byte) (s : State) : Host.Outcome State Fault Refusal :=
  .next (s.serve (.stow l tag device) (State.takeMotion l device (some .stow)))

/-- R128, R129: HALT. -/
def execHalt (l : Link) (tag device : Byte) (s : State) : Host.Outcome State Fault Refusal :=
  .next (s.serve (.halt l tag device) (State.takeMotion l device (some .halt)))

/-- R128, R129: EXTEND_TO. -/
def execExtendTo (l : Link) (tag device : Byte) (p : BitVec 16) (s : State) : Host.Outcome State Fault Refusal :=
  .next (s.serve (.extendTo l tag device p) (State.takeMotion l device (some (.extendTo p.toNat))))

/-- R146. -/
def execScene (l : Link) (tag n : Byte) (prec hold : BitVec 4) (secs : BitVec 16) (s : State) :
    Host.Outcome State Fault Refusal :=
  .next (s.serve (.scene l tag n prec hold secs) (State.takeScene l n.toNat prec.toNat hold.toNat secs.toNat))

/-- R158. -/
def execRead (l : Link) (tag item index part : Byte) (s : State) : Host.Outcome State Fault Refusal :=
  .next (s.serve (.read l tag item index part) (State.takeRead l item index part))

/-- R161. -/
def execEvents (l : Link) (tag flags : Byte) (mask : BitVec 16) (s : State) : Host.Outcome State Fault Refusal :=
  .next (s.serve (.events l tag flags mask) (State.takeEvents l flags mask))

/-- R155, R157: a KEEPALIVE replies OK; its work is done by the checks. -/
def execKeepalive (l : Link) (tag : Byte) (s : State) : Host.Outcome State Fault Refusal :=
  .next (s.serve (.keepalive l tag) fun s => (s, Reply.plain .ok))

/-- R160. -/
def execVehicle (l : Link) (tag : Byte) (speed : BitVec 16) (s : State) : Host.Outcome State Fault Refusal :=
  .next (s.serve (.vehicle l tag speed) (State.takeVehicle speed))

/-- R159. -/
def execConfigureStage (l : Link) (tag code index : Byte) (value : BitVec 24) (s : State) :
    Host.Outcome State Fault Refusal :=
  .next (s.serve (.configureStage l tag code index value)
    (State.takeStage l { code := code, index := index, value := value }))

/-- R159. -/
def execConfigure (l : Link) (tag code index : Byte) (value : BitVec 24) (s : State) :
    Host.Outcome State Fault Refusal :=
  .next (s.serve (.configure l tag code index value)
    (State.takeConfigure l { code := code, index := index, value := value }))

/-- R49. -/
def execClearLoadRecord (l : Link) (tag index : Byte) (s : State) : Host.Outcome State Fault Refusal :=
  .next (s.serve (.clearLoadRecord l tag index) (State.takeClearRecord l index.toNat))

/-- R103. -/
def execClearHeater (l : Link) (tag : Byte) (s : State) : Host.Outcome State Fault Refusal :=
  .next (s.serve (.clearHeater l tag) (State.takeClearHeater l))

/-- R121. -/
def execClearPump (l : Link) (tag : Byte) (s : State) : Host.Outcome State Fault Refusal :=
  .next (s.serve (.clearPump l tag) (State.takeClearPump l))

/-- R134. -/
def execClearMotion (l : Link) (tag index : Byte) (s : State) : Host.Outcome State Fault Refusal :=
  .next (s.serve (.clearMotion l tag index) (State.takeClearMotion l index))

/-- R166. -/
def execClearIncidentGroup (l : Link) (tag index : Byte) (s : State) : Host.Outcome State Fault Refusal :=
  .next (s.serve (.clearIncidentGroup l tag index) (State.takeClearGroup index.toNat))

/-- R166. -/
def execClearCapture (l : Link) (tag : Byte) (s : State) : Host.Outcome State Fault Refusal :=
  .next (s.serve (.clearCapture l tag) State.takeClearCapture)

/-- R72. -/
def execResetDemands (l : Link) (tag : Byte) (s : State) : Host.Outcome State Fault Refusal :=
  .next (s.serve (.resetDemands l tag) (takeReset State.regReset))

/-- R51, R93. -/
def execResetLoads (l : Link) (tag : Byte) (s : State) : Host.Outcome State Fault Refusal :=
  .next (s.serve (.resetLoads l tag) (takeReset State.loadsReset))

/-- R111, R121. -/
def execResetClimate (l : Link) (tag : Byte) (s : State) : Host.Outcome State Fault Refusal :=
  .next (s.serve (.resetClimate l tag) (takeReset State.climateGroupReset))

/-- R141. -/
def execResetMotion (l : Link) (tag : Byte) (s : State) : Host.Outcome State Fault Refusal :=
  .next (s.serve (.resetMotion l tag) (takeReset State.motionGroupReset))

/-- R162. -/
def execResetLinks (l : Link) (tag : Byte) (s : State) : Host.Outcome State Fault Refusal :=
  .next (s.serve (.resetLinks l tag) (takeReset State.linksReset))

/-- R169. -/
def execSave (l : Link) (tag : Byte) (s : State) : Host.Outcome State Fault Refusal :=
  .next (s.serve (.save l tag) State.takeSave)

/-- R52. -/
def execSelftest (l : Link) (tag : Byte) (s : State) : Host.Outcome State Fault Refusal :=
  .next (s.serve (.selftest l tag) (State.takeSelftest l))

/-- R11. -/
def execSetCharge (l : Link) (tag : Byte) (pm : BitVec 16) (s : State) : Host.Outcome State Fault Refusal :=
  .next (s.serve (.setCharge l tag pm) (State.takeSetCharge pm.toNat))

/-- R107. -/
def execCloseDrain (l : Link) (tag : Byte) (s : State) : Host.Outcome State Fault Refusal :=
  .next (s.serve (.closeDrain l tag) (State.takeCloseDrain l))

/-- R155: a frame that names no other row. A frame that does name another row is no unknown kind, and the row does
nothing with it (DEDUCED, log 17). -/
def execUnknownKind (l : Link) (f : Frame) (s : State) : Host.Outcome State Fault Refusal :=
  .next (if decodeRequest l f = .unknownKind l f then s.serve (.unknownKind l f) (State.takeOther l f) else s)

end Sys2Proof.Machine
end

