-- ==== Sys2Proof/Machine/Dispatch.lean ====
section
/-!
DEFINITION. One arm for each command, in the order of the operation table.
-/

namespace Sys2Proof.Machine

def exec (i : Instr) (s : State) : Host.Outcome State Fault Refusal :=
  match i with
  | .powerOn => Sys2Proof.Machine.execPowerOn s
  | .rstNAssert => Sys2Proof.Machine.execRstNAssert s
  | .rstNRelease => Sys2Proof.Machine.execRstNRelease s
  | .settingsLoadCompletion image => Sys2Proof.Machine.execSettingsLoadCompletion image s
  | .settingsLoadTimeout => Sys2Proof.Machine.execSettingsLoadTimeout s
  | .sweepCompletion m order => Sys2Proof.Machine.execSweepCompletion m order s
  | .cutCounterExpiry => Sys2Proof.Machine.execCutCounterExpiry s
  | .recoveryCounterExpiry => Sys2Proof.Machine.execRecoveryCounterExpiry s
  | .fullDetection => Sys2Proof.Machine.execFullDetection s
  | .altDelayExpiry => Sys2Proof.Machine.execAltDelayExpiry s
  | .restore c => Sys2Proof.Machine.execRestore c s
  | .overloadTrip r m => Sys2Proof.Machine.execOverloadTrip r m s
  | .shortCircuit r m => Sys2Proof.Machine.execShortCircuit r m s
  | .retryTimerExpiry r => Sys2Proof.Machine.execRetryTimerExpiry r s
  | .quietTimerExpiry r => Sys2Proof.Machine.execQuietTimerExpiry r s
  | .selftestSlotEnd answered => Sys2Proof.Machine.execSelftestSlotEnd answered s
  | .startTimerExpiry => Sys2Proof.Machine.execStartTimerExpiry s
  | .coolDownTimerExpiry => Sys2Proof.Machine.execCoolDownTimerExpiry s
  | .dryRunTimerExpiry => Sys2Proof.Machine.execDryRunTimerExpiry s
  | .pauseEnd d => Sys2Proof.Machine.execPauseEnd d s
  | .travelTimeout d => Sys2Proof.Machine.execTravelTimeout d s
  | .stall d => Sys2Proof.Machine.execStall d s
  | .windWindowCompletion pulses => Sys2Proof.Machine.execWindWindowCompletion pulses s
  | .windStow => Sys2Proof.Machine.execWindStow s
  | .windLockTimerExpiry => Sys2Proof.Machine.execWindLockTimerExpiry s
  | .oneSecondTimerExpiry => Sys2Proof.Machine.execOneSecondTimerExpiry s
  | .shortSilence l => Sys2Proof.Machine.execShortSilence l s
  | .longSilence l => Sys2Proof.Machine.execLongSilence l s
  | .vehicleAgeExpiry => Sys2Proof.Machine.execVehicleAgeExpiry s
  | .uartFrameReceived l f crc => Sys2Proof.Machine.execUartFrameReceived l f crc s
  | .frameGapTimeout l => Sys2Proof.Machine.execFrameGapTimeout l s
  | .canFrameReceived id remote data => Sys2Proof.Machine.execCanFrameReceived id remote data s
  | .canReplySent => Sys2Proof.Machine.execCanReplySent s
  | .unknownKind l f => Sys2Proof.Machine.execUnknownKind l f s
  | .place l tag target level prec hold secs => Sys2Proof.Machine.execPlace l tag target level prec hold secs s
  | .withdraw l tag target => Sys2Proof.Machine.execWithdraw l tag target s
  | .withdrawAll l tag => Sys2Proof.Machine.execWithdrawAll l tag s
  | .deploy l tag device => Sys2Proof.Machine.execDeploy l tag device s
  | .stow l tag device => Sys2Proof.Machine.execStow l tag device s
  | .halt l tag device => Sys2Proof.Machine.execHalt l tag device s
  | .extendTo l tag device p => Sys2Proof.Machine.execExtendTo l tag device p s
  | .scene l tag n prec hold secs => Sys2Proof.Machine.execScene l tag n prec hold secs s
  | .read l tag item index part => Sys2Proof.Machine.execRead l tag item index part s
  | .events l tag flags mask => Sys2Proof.Machine.execEvents l tag flags mask s
  | .keepalive l tag => Sys2Proof.Machine.execKeepalive l tag s
  | .vehicle l tag speed => Sys2Proof.Machine.execVehicle l tag speed s
  | .configureStage l tag code index value => Sys2Proof.Machine.execConfigureStage l tag code index value s
  | .configure l tag code index value => Sys2Proof.Machine.execConfigure l tag code index value s
  | .clearLoadRecord l tag index => Sys2Proof.Machine.execClearLoadRecord l tag index s
  | .clearHeater l tag => Sys2Proof.Machine.execClearHeater l tag s
  | .clearPump l tag => Sys2Proof.Machine.execClearPump l tag s
  | .clearMotion l tag index => Sys2Proof.Machine.execClearMotion l tag index s
  | .clearIncidentGroup l tag index => Sys2Proof.Machine.execClearIncidentGroup l tag index s
  | .clearCapture l tag => Sys2Proof.Machine.execClearCapture l tag s
  | .resetDemands l tag => Sys2Proof.Machine.execResetDemands l tag s
  | .resetLoads l tag => Sys2Proof.Machine.execResetLoads l tag s
  | .resetClimate l tag => Sys2Proof.Machine.execResetClimate l tag s
  | .resetMotion l tag => Sys2Proof.Machine.execResetMotion l tag s
  | .resetLinks l tag => Sys2Proof.Machine.execResetLinks l tag s
  | .save l tag => Sys2Proof.Machine.execSave l tag s
  | .saveCompletion readBack => Sys2Proof.Machine.execSaveCompletion readBack s
  | .selftest l tag => Sys2Proof.Machine.execSelftest l tag s
  | .setCharge l tag pm => Sys2Proof.Machine.execSetCharge l tag pm s
  | .closeDrain l tag => Sys2Proof.Machine.execCloseDrain l tag s
  | .uartByteReceived l b => Sys2Proof.Machine.execUartByteReceived l b s
  | .startUpClockTick => Sys2Proof.Machine.execStartUpClockTick s

end Sys2Proof.Machine
end

