-- ==== Sys2Proof/Safety.lean ====
section
/-!
DEFINITION. What the statements speak of: the invariants of a run, what a request needs to be served, and the relations
between the state before a command and the state after it.
-/

namespace Sys2Proof.Machine

/-! ### Invariants -/

/-- R56: the register holds at most 32 entries, no two of one origin and target, none of a function-owned target. -/
def RegisterOk (s : State) : Prop :=
  s.reg.length ≤ 32 ∧ s.reg.Pairwise (fun a b => ¬(a.origin = b.origin ∧ a.target = b.target)) ∧
    ∀ e ∈ s.reg, e.target ≤ 24 ∧ functionOwned e.target = false

/-- R39, R105: record 2 is ordered what it wants, is granted nothing where it is ordered nothing, and with the drain open
it wants nothing and its retained drive does not hold it on. -/
def DrainSafe (s : State) : Prop :=
  (s.row 2).ordered = (s.row 2).wanted ∧ ((s.row 2).ordered = 0 → (s.row 2).granted = 0) ∧
    (s.clim.drain = .opened → (s.row 2).wanted = 0 ∧ s.clim.heldDrive ≠ some true)

/-- R41, R106, R134: a lit light is one that may be lit; with the bank CUT the drain is open and no motor is driven; an
open drain is not driven. -/
def CutSafe (s : State) : Prop :=
  (∀ n : Fin 8, tget s.light.out n ≠ 0 → s.lit (lightRec n) = true) ∧
    (s.acct.bank = .cut → s.clim.drain = .opened ∧ ∀ d, (s.mot.get d).state.dir = none) ∧ DrainSafe s

/-- R152, R153, R154, R159: what the queues and buffers of the links can hold at most. -/
def LinkBounds (s : State) : Prop :=
  (∀ l, (s.lk l).rxQueue.length ≤ 4 ∧ (s.lk l).batch.length ≤ 8 ∧ ∀ bs, (s.lk l).part = some bs → bs.length ≤ 8) ∧
    s.can.replies.length ≤ 4

/-- R5, R6, R8, R9, R14, R17: the ranges of the charge and of the account's counters. -/
def AccountRanges (s : State) : Prop :=
  s.acct.q ≤ s.acct.copy.cNom * 3600000 ∧ s.acct.socPm ≤ 1000 ∧ s.acct.throughput ≤ 4294967295 ∧
    s.acct.fullCounter ≤ 1200 ∧ s.acct.cutCounter ≤ 49 ∧ s.acct.recoveryCounter ≤ 99

/-- R150: between commands no frame is being handled, and the node in force is the configured one. -/
def HandlingOver (s : State) : Prop := s.handling = none ∧ (s.phase = .run → s.can.node = s.set.node)

/-- R164: FAULT_N is asserted exactly while some kind is set, SEVERE and not masked. -/
def FaultFormed (t : State) : Prop :=
  t.log.faultN = true ↔ ∃ k : Fin 22, tget t.log.status k = true ∧ tget t.set.severity k = .severe ∧
    t.set.faultMask.getLsbD k.val = false

/-- R75, R76: each record is ordered what its wanted level and the active standing orders give. -/
def OrdersFormed (s : State) : Prop :=
  ∀ r, (s.row r).ordered = (s.orderFor r).1 ∧ (s.row r).orderSlot = (s.orderFor r).2

/-- R58, R68, R75: what the register resolves is what the records want and the modes are, and each record is ordered what
its wanted level and the standing orders give. -/
def LevelsFormed (s : State) : Prop :=
  (∀ r, isRegisterRec r.val = true →
    (s.row r).wanted = storeLevel r (resolveIn s.set s.reg r.val).1 ∧
      (s.row r).wantedBy = (resolveIn s.set s.reg r.val).2) ∧
    (s.clim.mode = heatModeOf (resolveIn s.set s.reg 22).1 ∧ s.clim.modeBy = (resolveIn s.set s.reg 22).2) ∧
    (s.clim.setpoint = (resolveIn s.set s.reg 23).1 ∧ s.clim.setpointBy = (resolveIn s.set s.reg 23).2) ∧
    (s.water.mode = pumpModeOf (resolveIn s.set s.reg 24).1 ∧ s.water.modeBy = (resolveIn s.set s.reg 24).2) ∧
    OrdersFormed s

/-- The ranges of the settings of chapters 1 to 3 and 5 (1.1, 2.1, R35, R36, R73, 5.1). -/
def EnergySettingsOk (c : Settings) : Prop :=
  (20 ≤ c.acct.cNom ∧ c.acct.cNom ≤ 1000 ∧ 200 ≤ c.acct.eta ∧ c.acct.eta ≤ 256 ∧ 13000 ≤ c.acct.vFull ∧
      c.acct.vFull ≤ 15000 ∧ 50 ≤ c.acct.reservePm ∧ c.acct.reservePm ≤ 600 ∧ 1000 ≤ c.acct.iMax ∧
      c.acct.iMax ≤ 30000) ∧
    (c.charge.altDelay ≤ 60 ∧ 500 ≤ c.charge.holdRelease ∧ c.charge.holdRelease ≤ 990) ∧
    (∀ r, (tget c.recs r).cls ≤ 3 ∧ (tget c.recs r).rated ≤ 2000 ∧ (tget c.recs r).surge ≤ 3000 ∧
      (tget c.recs r).rest ≤ 1000 ∧ (r.val < 12 → (tget c.recs r).rest = 0 ∨ (tget c.recs r).rest = 1000)) ∧
    (∀ k, 1 ≤ c.alloc.weights.get k ∧ c.alloc.weights.get k ≤ 15) ∧
    (1 ≤ c.alloc.restoreDelay ∧ c.alloc.restoreDelay ≤ 600) ∧
    ∀ i, 3 ≤ (tget c.slots i).target.val ∧ (tget c.slots i).target.val ≤ 19 ∧ (tget c.slots i).level ≤ 1000

/-- The ranges of the settings of chapters 7 to 11 (7.1, 8.1, 9.1, R145, 10.1, R150, 11.1). -/
def OtherSettingsOk (c : Settings) : Prop :=
  (c.water.freshEmpty ≤ 1000 ∧ c.water.freshFull ≤ 1000 ∧ 10 ≤ c.water.dryLimit ∧ c.water.dryLimit ≤ 600) ∧
    (∀ d, 1 ≤ c.motion.tFull.get d ∧ c.motion.tFull.get d ≤ 60 ∧ 100 ≤ c.motion.stall.get d ∧
      c.motion.stall.get d ≤ 3000) ∧
    (10500 ≤ c.motion.motionMin ∧ c.motion.motionMin ≤ 13500 ∧ 1 ≤ c.motion.windFactor ∧ c.motion.windFactor ≤ 100 ∧
      10 ≤ c.motion.windLimit ∧ c.motion.windLimit ≤ 120) ∧
    (∀ n, 1 ≤ tget c.light.fade n ∧ tget c.light.fade n ≤ 1000) ∧
    (c.light.courtesyLevel ≤ 1000 ∧ 10 ≤ c.light.courtesyTime ∧ c.light.courtesyTime ≤ 600) ∧
    (∀ i, ((tget c.light.scenes i).map (·.channel)).Nodup ∧ ∀ p ∈ tget c.light.scenes i, p.level ≤ 1000) ∧
    (∀ l, (c.links.get l).ceiling ≤ 3 ∧ (c.links.get l).shortN < (c.links.get l).longN ∧ (c.links.get l).longN ≤ 10 ∧
      (c.links.get l).eventMask &&& 0x03FF = (c.links.get l).eventMask) ∧
    c.node ≤ 15 ∧ c.debounceButtons ≤ 63 ∧ c.debounceOthers ≤ 63

/-- R159, R168: every live setting is in its range. -/
def SettingsOk (s : State) : Prop := EnergySettingsOk s.set ∧ OtherSettingsOk s.set

/-! ### Requests -/

/-- The part is in RUN, the link is in ACT, no other frame waits on it, and on link C the controller has room for a
reply: the link's next frame is handled at once (R153, R154; log 2). -/
def Ready (l : Link) (s : State) : Prop :=
  s.phase = .run ∧ (s.lk l).live = .act ∧ (s.lk l).rxQueue = [] ∧ s.blocked l = false ∧ s.handling = none

/-- R49, R52, R59, R103, R107, R121, R128, R134, R146: the request acts in a zone that is not in the link's membership, and
names this target. A request without a zone is none of these. -/
def Unadmitted (l : Link) (s : State) (target : Option Nat) : Instr → Prop
  | .place _ _ n _ _ _ _ => n.toNat ≤ 24 ∧ s.admits l (s.targetZone n.toNat) = false ∧ target = some n.toNat
  | .scene _ _ n _ hold _ => target = none ∧ hold.toNat ≤ 2 ∧
    ∃ i : Fin 8, n.toNat = i.val ∧ ∃ p ∈ tget s.set.light.scenes i, s.admits l (s.cfg (lightRec p.channel)).zone = false
  | .deploy _ _ device => s.admits l .exterior = false ∧ target = motorTarget device
  | .stow _ _ device => s.admits l .exterior = false ∧ target = motorTarget device
  | .halt _ _ device => s.admits l .exterior = false ∧ target = motorTarget device
  | .extendTo _ _ device _ => s.admits l .exterior = false ∧ target = motorTarget device
  | .unknownKind _ f => f.kind = 0x04 ∧ s.admits l .exterior = false ∧ target = motorTarget f.b2
  | .clearLoadRecord _ _ n => ∃ r : RecNo, n.toNat = r.val ∧ s.admits l (s.cfg r).zone = false ∧ target = some r.val
  | .clearHeater _ _ => s.admits l .service = false ∧ target = none
  | .clearPump _ _ => s.admits l .service = false ∧ target = none
  | .clearMotion _ _ n => n.toNat ≤ 1 ∧ s.admits l .exterior = false ∧ target = some (20 + n.toNat)
  | .selftest _ _ => s.admits l .service = false ∧ target = none
  | .closeDrain _ _ => s.admits l .service = false ∧ target = none
  | _ => False

/-- R157: link `k` after a frame of this kind was taken as valid on link `l`: its timer restarted in AUTO mode, and by a
KEEPALIVE in either mode. -/
def afterFrame (l : Link) (kind : Byte) (s : State) (k : Link) : LinkState :=
  if k = l ∧ ((s.set.links.get l).silenceMode = .auto ∨ kind = 0x08) then
    (s.lk k).restarted (s.set.links.get k)
  else s.lk k

/-- Every link is as the frame left it, but for its pending set and what has been sent on it. -/
def LinksKept (l : Link) (kind : Byte) (s t : State) : Prop :=
  ∀ k, t.lk k = { afterFrame l kind s k with pending := (t.lk k).pending, sent := (t.lk k).sent }

/-- Every link is as it was, but for its pending set and what has been sent on it. -/
def LinksQuiet (s t : State) : Prop :=
  ∀ k, t.lk k = { s.lk k with pending := (t.lk k).pending, sent := (t.lk k).sent }

/-- The frame `g` is the reply to a request of this kind and tag: status `st`, and result bytes that begin with
`bytes` (R151). -/
def IsReply (g : Frame) (kind tag : Byte) (st : Status) (bytes : List Byte) : Prop :=
  g.kind = 0x80 + kind ∧ g.tag = tag ∧ g.b2 = st.code ∧ bytes <+: [g.b3, g.b4, g.b5, g.b6, g.b7]

/-- One reply went out on link `l`: on P or T onto the line, on C to the CAN controller (R153). Nothing else went out on
P or T, and nothing else to the CAN controller. -/
def Replied (l : Link) (kind tag : Byte) (st : Status) (bytes : List Byte) (s t : State) : Prop :=
  ∃ g, IsReply g kind tag st bytes ∧
    t.can =
      { replies :=
          if l = .c then s.can.replies ++ [{ id := some (canReplyId s.can.node), payload := g }] else s.can.replies
        node := t.set.node } ∧
    ∀ k, k ≠ .c →
      (t.lk k).sent = if k = l then (s.lk k).sent ++ [{ id := none, payload := g }] else (s.lk k).sent

/-! ### Events and incidents -/

/-- Exactly these event kinds, as a set, were entered in the pending set of every link. -/
def Raised (es : EventSet) (s t : State) : Prop := ∀ k, (t.lk k).pending = (s.lk k).pending ||| es

/-- At least these event kinds were entered in the pending set of every link, and none was taken out. -/
def RaisedAtLeast (es : EventSet) (s t : State) : Prop :=
  ∀ k, (t.lk k).pending &&& ((s.lk k).pending ||| es) = (s.lk k).pending ||| es

/-- R163: the kind is set and counted once more, the capture is taken where none was held, and nothing else of the log
but the level of FAULT_N changes. -/
def LogTook (k : Incident) (s t : State) : Prop :=
  t.log.status = tset s.log.status k.no true ∧
    t.log.count = tset s.log.count k.no (min 255 (tget s.log.count k.no + 1)) ∧
    t.log.clock = s.log.clock ∧ (∀ c, s.log.capture = some c → t.log.capture = some c) ∧
    (s.log.capture = none → ∃ c, t.log.capture = some c ∧ c.kind = k ∧ c.socPm = s.acct.socPm ∧ c.time = s.log.clock)

/-- R2: the account `a` has taken live settings and is now `b`. -/
def TookSettings (live : AcctSettings) (a b : Account) : Prop :=
  (live.cNom = a.copy.cNom → b.q = a.q ∧ b.sync = a.sync ∧ b.throughput = a.throughput) ∧
    (live.cNom ≠ a.copy.cNom → b.q = min a.q (live.cNom * 3600000) ∧ b.sync = .unsynced ∧ b.throughput = 0) ∧
    (b.fullCounter =
      if live.cNom = a.copy.cNom ∧ live.chemistry = a.copy.chemistry then a.fullCounter else 0) ∧
    (b.cutCounter = if live.chemistry = a.copy.chemistry then a.cutCounter else 0) ∧
    (b.recoveryCounter = if live.chemistry = a.copy.chemistry then a.recoveryCounter else 0) ∧
    b = { a with
      copy := live, q := b.q, sync := b.sync, throughput := b.throughput, fullCounter := b.fullCounter
      cutCounter := b.cutCounter, recoveryCounter := b.recoveryCounter }

/-- R133: the controller of `d` after its state was computed again from the inputs the part last published. -/
def Recomputed (d : Device) (s t : State) : Prop :=
  let i := s.inputs d
  (t.mot.get d).state =
      (if i.latch then .latched else if i.inSw && i.outSw then .fault .sensor else if i.inSw then .stowed
      else if i.outSw then .deployed else .halted) ∧
    (t.mot.get d).runMs =
      (if i.latch || (i.inSw == i.outSw) then (s.mot.get d).runMs else if i.inSw then 0
      else t.set.motion.tFull.get d * 1000) ∧
    (t.mot.get d).travel = 0 ∧ (t.mot.get d).stall = 0

/-- R130: the deploy checks pass. -/
def clearToDeploy (d : Device) (s : State) : Bool :=
  s.acct.bank != .cut && decide (s.set.motion.motionMin ≤ s.mu.bankV) &&
    match d, s.vehicle.speed with
    | .awning, _ => !s.mu.ign && !s.wind.lock
    | .step, some v => decide (v < 3)
    | .step, none => !s.mu.ign

/-- R130: where a movement outward is begun. -/
def beginOut (m : Motion) (p : Nat) : MotionState :=
  if m.rest < 5 ∧ (m.lastDir = some .inward ∨ m.lastDir = none) then .pause (.outward p) else .deploying

/-- R130: where a movement inward is begun. -/
def beginIn (m : Motion) : MotionState :=
  if m.rest < 5 ∧ (m.lastDir = some .outward ∨ m.lastDir = none) then .pause .inward else .stowing

/-- R129, column DEPLOY / EXTEND_TO p, with the deploy checks passed and the latch free: state and status. `reached`: the
command is an EXTEND_TO and its target lies at or below the present position. -/
def deployRow (m : Motion) (p : Nat) (reached : Bool) : MotionState × Status :=
  match m.state with
  | .stowed => if reached then (.stowed, .ok) else (beginOut m p, .accepted)
  | .halted => if reached then (.halted, .ok) else (beginOut m p, .accepted)
  | .deploying => (.deploying, .ok)
  | .deployed => (.deployed, .ok)
  | .stowing => (.pause (.outward p), .accepted)
  | .pause _ => if reached then (.halted, .ok) else (.pause (.outward p), .accepted)
  | .fault c => (.fault c, .locked)
  | .latched => (.latched, .latched)

/-- R129, column STOW, with the bank not CUT and the latch free: state and status. -/
def stowRow (m : Motion) : MotionState × Status :=
  match m.state with
  | .stowed => (.stowed, .ok)
  | .deploying => (.pause .inward, .accepted)
  | .deployed => (beginIn m, .accepted)
  | .stowing => (.stowing, .ok)
  | .halted => (beginIn m, .accepted)
  | .pause _ => (.pause .inward, .accepted)
  | .fault .sensor => (.fault .sensor, .locked)
  | .fault _ => (beginIn m, .accepted)
  | .latched => (.latched, .latched)

/-- R129, column HALT. -/
def haltRow (m : Motion) : MotionState × Status :=
  match m.state with
  | .deploying => (.halted, .ok)
  | .stowing => (.halted, .ok)
  | .pause _ => (.halted, .ok)
  | .latched => (.latched, .latched)
  | x => (x, .ok)

/-- R127: the travel accumulator after a sweep without an edge of the latch: the bridge moves it, a single end switch
sets it. -/
def runAfter (s : State) (d : Device) : Nat :=
  let m := s.mot.get d
  let i := s.inputs d
  let full := s.set.motion.tFull.get d * 1000
  let on := s.driveOn d.motor
  let run :=
    if on && m.state == .deploying then min full (m.runMs + 100)
    else if on && m.state == .stowing then min full (m.runMs - 100)
    else m.runMs
  match m.state with
  | .fault _ => run
  | .latched => run
  | _ => if i.inSw && i.outSw then run else if i.inSw then 0 else if i.outSw then full else run

/-- R132: the stall counter after a sweep in movement. -/
def stallAfter (s : State) (d : Device) : Nat :=
  if s.driveOn d.motor then
    if s.set.motion.stall.get d < tget s.mu.currents d.motor then min 3 ((s.mot.get d).stall + 1) else 0
  else (s.mot.get d).stall

/-- R127, R130 to R132: the motion state after a sweep without an edge of the latch, of the button or of IGN: both end
switches, then the ends of motion in the order of the table, then the end of a PAUSE. -/
def stateAfter (s : State) (d : Device) : MotionState :=
  let m := s.mot.get d
  let i := s.inputs d
  let pos := min 1000 (runAfter s d * 1000 / (s.inForce.tFull.get d * 1000))
  let goesOn :=
    if stallAfter s d = 3 then .fault .stall
    else if s.set.motion.tFull.get d * 15 ≤ min 900 (m.travel + 1) then .fault .timeout
    else m.state
  match m.state with
  | .fault c => .fault c
  | .latched => .latched
  | x =>
    if i.inSw && i.outSw then .fault .sensor
    else match x with
      | .deploying => if i.outSw then .deployed else if m.target < 1000 ∧ m.target ≤ pos then .halted else goesOn
      | .stowing => if i.inSw then .stowed else goesOn
      | .pause p =>
        if m.rest < 4 then x
        else match p with
          | .inward => if s.acct.bank = .cut then .halted else .stowing
          | .outward _ => if clearToDeploy d s then .deploying else .halted
      | x => x

/-- R95: the call of a sweep with cabin temperature `cabin`. -/
def callAfter (c : Climate) (cabin : Int) : Bool :=
  let around := fun (e : Int) => if cabin ≤ e - 1 then true else if e + 1 ≤ cabin then false else c.call
  match c.mode with
  | .off => false
  | .frost => around 10
  | .eco => around (max 10 ((c.setpoint : Int) - 6))
  | .comfort => around c.setpoint

/-- R97 to R102: the heater after steps 1 to 5 of a sweep with this call, HTR_FLT and FLAME. A COOL_DOWN that is entered
before step 4 counts at that step. -/
def heaterAfter (c : Climate) (call fault flame : Bool) : Climate :=
  let locked : Climate := { c with call := call, heater := .lockout, faultMark := false, startTimer := 0, coolTimer := 0 }
  let cool := fun (mark : Bool) (fails timer : Nat) =>
    { c with call := call, heater := .coolDown, faultMark := mark, startTimer := 0, coolTimer := timer, failCount := fails }
  let fails := min 3 c.failCount
  let failed := min 3 (c.failCount + 1)
  match c.heater with
  | .off => if fault then locked else { c with call := call, heater := if call then .waitBudget else .off }
  | .waitBudget =>
    if fault then locked
    else if call then { c with call := call }
    else { c with call := call, heater := .off, faultMark := false, startTimer := 0, coolTimer := 0 }
  | .start =>
    if fault then cool true fails 1799
    else if flame then
      if call then { c with call := call, heater := .run, startTimer := 0, failCount := 0 } else cool false 0 1800
    else if c.startTimer ≤ 1 then cool false failed 1800
    else { c with call := call, startTimer := c.startTimer - 1 }
  | .run =>
    if fault then cool true fails 1799
    else if !flame then cool false failed 1799
    else if call then { c with call := call }
    else cool false fails 1800
  | .coolDown =>
    if 1 < c.coolTimer then { c with call := call, faultMark := c.faultMark || fault, coolTimer := c.coolTimer - 1 }
    else if c.failCount = 3 ∨ c.faultMark = true ∨ fault = true then locked
    else { locked with heater := if call then .waitBudget else .off }
  | .lockout => { c with call := call }

/-- R118: the pump state that the table gives. -/
def pumpRow (s : State) : PumpState :=
  if s.water.mode = .off then .off
  else if s.water.band = .empty ∨ s.water.drain = .opened ∨ (s.water.greyFull = true ∧ s.inForce.greyInhibit = true)
  then .inhibited
  else if s.water.press = true then .idle else .running

/-- The event kind stands in the pending set of every link. -/
def OnEveryLink (e : Event) (t : State) : Prop := ∀ k, (t.lk k).pending.getLsbD e.no = true

/-- R138: what a change of the step's state asks of the register. Leaving STOWED, but for LATCHED, places the step light's
demand where there is room, and entering STOWED withdraws it; no other record than the light's and the motors' changes. -/
def StepLightFollows (s t : State) : Prop :=
  let a := (s.mot.get .step).state
  let b := (t.mot.get .step).state
  let lamp := lightRec s.set.light.stepLight
  let own := fun (e : Entry) => e.origin == .step && e.target == lamp.val
  let stepOn : Entry := { origin := .step, target := lamp.val, level := 1000, prec := 2, hold := .persist }
  let placed : Prop :=
    a = .stowed ∧ b ≠ .stowed ∧ b ≠ .latched ∧ (s.reg.length < 32 ∨ s.reg.any own = true)
  let withdrawn : Prop := a ≠ .stowed ∧ b = .stowed ∧ s.reg.any own = true
  t.reg = (if withdrawn then s.reg.filter (fun e => !own e)
    else if placed then s.reg.filter (fun e => !own e) ++ [stepOn] else s.reg) ∧
    (∀ r, r ≠ 20 → r ≠ 21 → (placed ∨ withdrawn → r ≠ lamp) → t.row r = s.row r) ∧
    (placed ∨ withdrawn →
      if resolveIn s.set t.reg lamp.val = resolveIn s.set s.reg lamp.val then t.row lamp = s.row lamp
      else (t.row lamp).wanted = storeLevel lamp (resolveIn s.set t.reg lamp.val).1 ∧
        (t.row lamp).wantedBy = (resolveIn s.set t.reg lamp.val).2) ∧
    (∀ k, (t.lk k).pending.getLsbD Event.demand.no = true ↔ (s.lk k).pending.getLsbD Event.demand.no = true ∨
      (placed ∨ withdrawn) ∧ (s.lk k).echo.getLsbD Origin.step.no = true) ∧
    (¬(placed ∨ withdrawn) ∨ CutSafe s → t.light = s.light)

/-! ### Drive-away -/

/-- R129, R136: the step is not STOWED, and a drive-away only reports it: it stands in FAULT or LATCHED, or its STOW is
refused for the latch or for CUT. -/
def StowsNot (s : State) : Prop :=
  let x := (s.mot.get .step).state
  (∃ c, x = .fault c) ∨ x = .latched ∨ (x ≠ .stowed ∧ (s.inputs .step).latch = true) ∨
    ((x = .deploying ∨ x = .deployed ∨ x = .halted ∨ ∃ p, x = .pause p) ∧ s.acct.bank = .cut)

/-- R129, R136: the step has met a drive-away: a step not STOWED takes a STOW, or where it cannot, stays and DRIVE_AWAY is
raised. The awning is left; the direction and the rest of the step follow the drive of
its motor (R125). -/
def DroveAway (s t : State) : Prop :=
  let m := s.mot.get .step
  let u := t.mot.get .step
  t.mot.get .awning = s.mot.get .awning ∧
    (StowsNot s → t.mot = s.mot ∧ t.row 21 = s.row 21 ∧ LogTook .driveAway s t ∧ FaultFormed t ∧
      OnEveryLink .incident t) ∧
    (¬StowsNot s → t.log = s.log ∧
      u = { m with
        state := (stowRow m).1, source := if (stowRow m).2 = .accepted then .automatic else m.source
        lastDir := u.lastDir, rest := u.rest, travel := u.travel, stall := u.stall } ∧
      ((stowRow m).2 ≠ .accepted → u = m ∧ t.row 21 = s.row 21) ∧
      ((stowRow m).2 = .accepted → (t.row 21).wanted = (if u.state = .stowing then 1000 else 0) ∧
        (u.state = .stowing → u.travel = 0 ∧ u.stall = 0)) ∧
      (u.state.no ≠ m.state.no → OnEveryLink .motion t))

/-- R76, R160: what a change of the vehicle state leaves of the load table. Only a record that an enabled slot on
VEHICLE_MOVING names is evaluated again, and only where the truth of that condition has changed; record 21 follows the
step. -/
def MovingEvaluated (s t : State) : Prop :=
  (∀ r, r ≠ 21 → t.row r = { s.row r with
    ordered := (t.row r).ordered, orderSlot := (t.row r).orderSlot, granted := (t.row r).granted
    join := (t.row r).join }) ∧
    (∀ r, r ≠ 21 →
      (∀ i : Fin 8, ¬((tget s.set.slots i).enabled = true ∧ (tget s.set.slots i).condition = .vehicleMoving ∧
        (tget s.set.slots i).target = r)) → t.row r = s.row r) ∧
    (s.vehicleMoving = t.vehicleMoving → ∀ r, r ≠ 21 → t.row r = s.row r) ∧ (CutSafe s → t.light = s.light)

/-! ### Standing orders -/

/-- R74: the condition is true. -/
def CondHolds (s : State) (c : Condition) : Prop :=
  s.phase = .run ∧
    match c with
    | .ignitionOn => s.mu.ign = true
    | .engineRunning => s.mu.engine = true
    | .vehicleMoving => ∃ v, s.vehicle.speed = some v ∧ 3 ≤ v
    | .shorePresent => s.mu.shore = true
    | .bankReserve => s.acct.bank = .reserve
    | .bankCold => s.mu.tBank < 0
    | .cabinDoorOpen => s.mu.door = true
    | .greyFull => s.water.greyFull = true

/-- R74, R75: slot `i` is active, has this action and names the record. -/
def Names (s : State) (a : SlotAction) (r : RecNo) (i : Fin 8) : Prop :=
  (tget s.set.slots i).enabled = true ∧ CondHolds s (tget s.set.slots i).condition ∧ (tget s.set.slots i).action = a ∧
    (tget s.set.slots i).target = r

/-! ### Allocation -/

/-- R80: the record can be served: a motor, or a channel in NORMAL. -/
def servable (s : State) (r : RecNo) : Bool := decide (20 ≤ r.val) || (s.row r).prot == .normal

/-- R43: what a record is expected to draw. -/
def expected (s : State) (r : RecNo) : Nat :=
  let x := s.row r
  let c := s.cfg r
  if servable s r = false then 0
  else if r = 1 ∧ (s.clim.heater = .waitBudget ∨ s.clim.heater = .start) then c.surge
  else if 12 ≤ r.val ∧ r.val < 20 then c.rated * x.ordered / 1000
  else if 0 < x.ordered then c.rated
  else 0

/-- R35, R80: the record counts in class `n` at the next pass. -/
def inClass (s : State) (n : Nat) (r : RecNo) : Bool :=
  let cls := if r = 2 ∨ r = 20 ∨ r = 21 ∨ r = 1 ∧ s.clim.heater = .coolDown then 3 else (s.cfg r).cls
  servable s r && cls == n && decide (0 < (s.row r).ordered)

/-- What the records of a set are expected to draw together. -/
def drawOf (s : State) (p : RecNo → Bool) : Nat := (((List.finRange 22).filter p).map (expected s)).sum

/-- The record's level is settled by the pass alone: record 1 wants already what its notices would make it want. -/
def Settled (s : State) (r : RecNo) : Prop := r ≠ 1 ∨ (s.row 1).wanted = 1000 ∧ (s.row 1).wantedBy = .function

/-- R89: the record is GRANTED, a light at what the dim factor leaves of its ordered level. -/
def GrantedAt (dim : Nat) (r : RecNo) (s t : State) : Prop :=
  (t.row r).alloc = .granted ∧
    (t.row r).granted = if 12 ≤ r.val ∧ r.val < 20 then (s.row r).ordered * dim / 1000 else 1000

/-- R89: the record is SHED. -/
def ShedIn (r : RecNo) (t : State) : Prop := (t.row r).alloc = .shed ∧ (t.row r).granted = 0

/-! ### Hand-overs -/

/-- R68, R95, R97 to R99: the climate controller once a heating mode is handed to it. Mode OFF sets the call off and acts on
the heater at once; any other mode leaves both. -/
def heatHanded (m : HeatMode) (who : WantedBy) (c : Climate) : Climate :=
  let d : Climate := { c with mode := m, modeBy := who }
  if m = .off then
    let off : Climate := { d with call := false }
    let cool : Climate :=
      { off with
        heater := .coolDown, faultMark := false, startTimer := 0, coolTimer := 1800, failCount := min 3 c.failCount }
    match c.heater with
    | .waitBudget => { off with heater := .off, faultMark := false, startTimer := 0, coolTimer := 0 }
    | .start => cool
    | .run => cool
    | _ => off
  else d

/-- R68, R118, R119: the water controller once a pump mode is handed to it. The pump is evaluated at once, but in DRY_LOCK;
a change of its state sets the dry-run timer to 0. -/
def pumpHanded (m : PumpMode) (who : WantedBy) (s : State) : Water :=
  let w : Water := { s.water with mode := m, modeBy := who }
  let p := pumpRow { s with water := w }
  if w.pump = .dryLock ∨ w.pump = p then w else { w with pump := p, dryTimer := 0 }

/-- R58, R68, R96, R118: the modes after an operation of the register that left the list of `t` under the settings `now`:
the climate and the water controller were handed what has changed, and records 1 and 0 follow the heater and the pump. -/
def ModesHandedOn (now : Settings) (s t : State) : Prop :=
  let before := fun (n : Nat) => resolveIn s.set s.reg n
  let after := fun (n : Nat) => resolveIn now t.reg n
  let heated := if after 22 = before 22 then s.clim else heatHanded (heatModeOf (after 22).1) (after 22).2 s.clim
  t.clim = { heated with setpoint := t.clim.setpoint, setpointBy := t.clim.setpointBy } ∧
    (if after 23 = before 23 then t.clim.setpoint = s.clim.setpoint ∧ t.clim.setpointBy = s.clim.setpointBy
    else t.clim.setpoint = (after 23).1 ∧ t.clim.setpointBy = (after 23).2) ∧
    t.water = (if after 24 = before 24 then s.water else pumpHanded (pumpModeOf (after 24).1) (after 24).2 s) ∧
    (if t.clim.heater = s.clim.heater then t.row 1 = s.row 1
    else (t.row 1).wanted = (if t.clim.heater = .off then 0 else 1000) ∧ (t.row 1).wantedBy = .function) ∧
    if t.water.pump = s.water.pump then t.row 0 = s.row 0
    else (t.row 0).wanted = (if t.water.pump = .running then 1000 else 0) ∧ (t.row 0).wantedBy = .function

/-- R58, R68: the records and modes after an operation of the register that left the list of `t`: a target whose resolved
value is the same was handed nothing, any other was handed its new value. -/
def HandedOn (s t : State) : Prop :=
  (∀ r, isRegisterRec r.val = true →
    if resolveIn s.set t.reg r.val = resolveIn s.set s.reg r.val then t.row r = s.row r
    else (t.row r).wanted = storeLevel r (resolveIn s.set t.reg r.val).1 ∧
      (t.row r).wantedBy = (resolveIn s.set t.reg r.val).2) ∧
    ModesHandedOn s.set s t ∧
    t.row 2 = s.row 2 ∧ t.row 10 = s.row 10 ∧ t.row 20 = s.row 20 ∧ t.row 21 = s.row 21

/-- R70, R108, R118: the events that an operation of the register enters on link `k`: DEMAND where the link's echo set holds
the origin of a changed entry, CLIMATE where the heater and WATER where the pump has changed. -/
def registerEvents (os : List Origin) (s t : State) (k : Link) : EventSet :=
  (if (os.any fun o => (t.lk k).echo.getLsbD o.no) = true then Event.demand.bit else 0) |||
    (if t.clim.heater = s.clim.heater then 0 else Event.climate.bit) |||
    (if t.water.pump = s.water.pump then 0 else Event.water.bit)

/-- R58, R70: exactly the events of an operation of the register were entered in the pending sets. -/
def Announced (os : List Origin) (s t : State) : Prop :=
  ∀ k, (t.lk k).pending = (s.lk k).pending ||| registerEvents os s t k

end Sys2Proof.Machine
end

