-- ==== Sys2Proof/WellFormed.lean ====
section
/-!
DEFINITION. Well-formed commands: operands that the command's own source can produce.
-/

namespace Sys2Proof

open Sys2Proof.Machine

/-- A value in a closed interval. -/
def within (lo hi x : Int) : Bool := decide (lo ≤ x) && decide (x ≤ hi)

/-- R3, R44, R113 and the general ranges of chapter 0. -/
def Sweep.wellFormed (m : Sweep) : Bool :=
  within (-32768) 32767 m.shunt && decide (m.bankV ≤ 20000) && decide (m.minV ≤ m.bankV) &&
    within (-80) 170 m.tBank && within 0 32767 m.chargeIn &&
    within (-80) 170 m.tCabin && within (-80) 170 m.tValve && within (-80) 170 m.tOut &&
    decide (m.starterV ≤ 20000) && decide (m.sender ≤ 1000) && m.currents.toList.all fun c => decide (c ≤ 32767)

/-- The link is a UART (R152). -/
def Link.isUart (l : Link) : Bool := l != .c

/-- The operands of a command are ones its source can produce. -/
def Instr.wellFormed : Instr → Bool
  | .powerOn => true
  | .rstNAssert => true
  | .rstNRelease => true
  | .settingsLoadCompletion image => decide (image.length ≤ 65536)
  | .settingsLoadTimeout => true
  | .sweepCompletion m order => m.wellFormed && decide order.Nodup
  | .cutCounterExpiry => true
  | .recoveryCounterExpiry => true
  | .fullDetection => true
  | .altDelayExpiry => true
  | .restore _ => true
  | .overloadTrip r m => decide (r.val < 20) && decide (m ≤ 32767)
  | .shortCircuit r m => decide (r.val < 12) && decide (m ≤ 32767)
  | .retryTimerExpiry r => decide (r.val < 20)
  | .quietTimerExpiry r => decide (r.val < 20)
  | .selftestSlotEnd _ => true
  | .startTimerExpiry => true
  | .coolDownTimerExpiry => true
  | .dryRunTimerExpiry => true
  | .pauseEnd _ => true
  | .travelTimeout _ => true
  | .stall _ => true
  | .windWindowCompletion _ => true
  | .windStow => true
  | .windLockTimerExpiry => true
  | .oneSecondTimerExpiry => true
  | .shortSilence _ => true
  | .longSilence _ => true
  | .vehicleAgeExpiry => true
  | .uartFrameReceived l _ _ => l.isUart
  | .frameGapTimeout l => l.isUart
  | .canFrameReceived _ _ data => decide (data.length ≤ 8)
  | .canReplySent => true
  | .unknownKind l f => decodeRequest l f == .unknownKind l f
  | .place _ _ _ _ _ _ _ => true
  | .withdraw _ _ _ => true
  | .withdrawAll _ _ => true
  | .deploy _ _ _ => true
  | .stow _ _ _ => true
  | .halt _ _ _ => true
  | .extendTo _ _ _ _ => true
  | .scene _ _ _ _ _ _ => true
  | .read _ _ _ _ _ => true
  | .events _ _ _ _ => true
  | .keepalive _ _ => true
  | .vehicle _ _ _ => true
  | .configureStage _ _ _ _ _ => true
  | .configure _ _ _ _ _ => true
  | .clearLoadRecord _ _ _ => true
  | .clearHeater _ _ => true
  | .clearPump _ _ => true
  | .clearMotion _ _ _ => true
  | .clearIncidentGroup _ _ _ => true
  | .clearCapture _ _ => true
  | .resetDemands _ _ => true
  | .resetLoads _ _ => true
  | .resetClimate _ _ => true
  | .resetMotion _ _ => true
  | .resetLinks _ _ => true
  | .save _ _ => true
  | .saveCompletion readBack => match readBack with
    | some image => decide (image.length ≤ 65536)
    | none => true
  | .selftest _ _ => true
  | .setCharge _ _ _ => true
  | .closeDrain _ _ => true
  | .uartByteReceived l _ => l.isUart
  | .startUpClockTick => true

end Sys2Proof
end

