-- ==== Sys2Proof/Certificates/Slice0/Obligations.lean ====
section
/-!
DEFINITION. The statements for the provers. Each formalises rules R<n> of the spec; a clause that rests on a choice of the
model says so and names the log entry.
-/

open Sys2Proof Sys2Proof.Machine

/-! ### The queue and the requests' frames -/

/-- The command at the front of the queue is executed on the state that holds the rest of the queue. -/
def Obligations.StepTakesFrontCommand : Prop :=
  ∀ (c : Instr) (rest : List Instr) (s : State),
    step { s with pending := c :: rest } = exec c { s with pending := rest }

/-- R151: the frame of a request row is read back as that row, and every frame on a link is read as a well-formed request
row of that link, whose own frame differs from it in no byte that the row uses. -/
def Obligations.RequestFrameReadsBack : Prop :=
  (∀ (i : Instr) (l : Link) (f : Frame), i.wellFormed = true → requestFrame i = some (l, f) → decodeRequest l f = i) ∧
    ∀ (l : Link) (f : Frame), (decodeRequest l f).wellFormed = true ∧
      ∃ g, requestFrame (decodeRequest l f) = some (l, g) ∧ g.kind = f.kind ∧ g.tag = f.tag ∧
        decodeRequest l g = decodeRequest l f

/-! ### Invariants -/

/-- Every invariant of Safety.lean holds of the part right after reset, FAULT_N being formed (R164) and the levels being as
the register and the standing orders give them (R58, R75) among them. Where reset gives no value of the spec, log 4
and log 5 chose it. -/
def Obligations.ResetMeetsInvariants : Prop :=
  RegisterOk State.reset ∧ CutSafe State.reset ∧ LinkBounds State.reset ∧ AccountRanges State.reset ∧
    HandlingOver State.reset ∧ FaultFormed State.reset ∧ LevelsFormed State.reset ∧ SettingsOk State.reset

/-- R56: no command brings the register above 32 entries, gives it two entries of one origin and target, or an entry of a
function-owned target. -/
def Obligations.RegisterOkKept : Prop := ∀ s t : State, RegisterOk s → step s = .next t → RegisterOk t

/-- R41, R105, R106, R134: no command leaves a light lit that may not be lit, an open drain that is wanted or held on, or,
with the bank CUT, a closed drain or a driven motor. -/
def Obligations.CutSafeKept : Prop := ∀ s t : State, CutSafe s → step s = .next t → CutSafe t

/-- R5, R6, R8, R9, R14, R17: no command takes the charge or a counter of the account out of its range. R152, R153, R154,
R159: none overfills a receive queue, a partial frame, a staging batch or the CAN controller's replies. R150: none
leaves a frame in handling, or in RUN a node in force other than the configured one. R164: none leaves FAULT_N in RUN
other than as the set kinds, their severities and the mask give it. -/
def Obligations.RangesBoundsAndFaultLevelKept : Prop :=
  (∀ s t : State, AccountRanges s → step s = .next t → AccountRanges t) ∧
    (∀ s t : State, LinkBounds s → step s = .next t → LinkBounds t) ∧
    (∀ s t : State, HandlingOver s → step s = .next t → HandlingOver t) ∧
    ∀ s t : State, (s.phase = .run → FaultFormed s) → step s = .next t → t.phase = .run → FaultFormed t

/-- R58, R68, R75 to R77: after every command, in RUN or not, each record is ordered what its wanted level and the active
standing orders give; in RUN each register record also wants its resolved value, and the heating mode, the setpoint and
the pump mode are the resolved ones. -/
def Obligations.LevelsFollowRegisterAndOrders : Prop :=
  ∀ s t : State, OrdersFormed s → (s.phase = .run → LevelsFormed s) → step s = .next t →
    OrdersFormed t ∧ (t.phase = .run → LevelsFormed t)

/-- R159, R168: no command leaves a setting out of its range. -/
def Obligations.SettingsInRangeKept : Prop := ∀ s t : State, SettingsOk s → step s = .next t → SettingsOk t

/-! ### Demand register -/

/-- R67, R68: of the entries of a target the one with the highest precedence decides, of those the one nearest the tail;
with no entry the target takes its rest level. R39, R74 to R76: an evaluation orders a record 3 to 19 the level of the
lowest-numbered active FORCE slot that names it, or else the lowest of its wanted level and of the active CAP slots that
name it, with the lowest-numbered of those as order_slot where it is a reduction; any other record is ordered what it
wants. A reduction lowers the granted level at once, a rise from 0 makes a joiner, and a level that stays changes
nothing. -/
def Obligations.EntriesResolveAndOrdersForm : Prop :=
  (∀ (cfg : Settings) (es : List Entry),
    (∀ r : RecNo, (∀ e ∈ es, e.target ≠ r.val) → resolveIn cfg es r.val = ((tget cfg.recs r).rest, .rest)) ∧
      ((∀ e ∈ es, e.target ≠ 22) → resolveIn cfg es 22 = (1, .rest)) ∧
      ((∀ e ∈ es, e.target ≠ 23) → resolveIn cfg es 23 = (40, .rest)) ∧
      ((∀ e ∈ es, e.target ≠ 24) → resolveIn cfg es 24 = (0, .rest)) ∧
      ∀ (older newer : List Entry) (e : Entry), es = older ++ e :: newer →
        (∀ x ∈ older, x.target = e.target → x.prec ≤ e.prec) → (∀ x ∈ newer, x.target = e.target → x.prec < e.prec) →
        resolveIn cfg es e.target = (e.level, e.origin.by)) ∧
  ∀ (r : RecNo) (s : State),
    let x := s.row r
    let t := s.evalOrder r
    let y := t.row r
    let level := fun (i : Fin 8) => (tget s.set.slots i).level
    let stored := fun (v : Nat) => if recKind r = .dimmed then v else if v = 0 then 0 else 1000
    let named : Prop := 3 ≤ r.val ∧ r.val ≤ 19
    (¬named → y.ordered = x.wanted ∧ y.orderSlot = none) ∧
      (named → ∀ i, Names s .force r i → (∀ j, Names s .force r j → i.val ≤ j.val) →
        y.ordered = stored (level i) ∧ y.orderSlot = some i) ∧
      (named → (∀ i a, ¬Names s a r i) → y.ordered = stored x.wanted ∧ y.orderSlot = none) ∧
      (named → (∀ i, ¬Names s .force r i) → stored x.wanted = x.wanted → ∀ i, Names s .cap r i →
        (∀ j, Names s .cap r j → level i < level j ∨ level i = level j ∧ i.val ≤ j.val) →
          y.ordered = stored (min x.wanted (level i)) ∧
            y.orderSlot = if stored (min x.wanted (level i)) < x.wanted then some i else none) ∧
      (x.ordered ≤ y.ordered → y.granted = x.granted) ∧
      (y.ordered < x.ordered → recKind r ≠ .dimmed → y.granted = 0) ∧
      (y.ordered < x.ordered → recKind r = .dimmed →
        (tget s.inForce.cls r = 3 → y.granted = min x.granted y.ordered) ∧
          ∀ c : LoadClass, tget s.inForce.cls r = c.no →
            y.granted = min x.granted (y.ordered * (s.alloc.cls.get c).dim / 1000)) ∧
      y.join = (x.join || x.ordered == 0 && y.ordered != 0) ∧
      y = { x with ordered := y.ordered, orderSlot := y.orderSlot, granted := y.granted, join := y.join } ∧
      (y.ordered = x.ordered → y.orderSlot = x.orderSlot → t = s) ∧ (∀ k, k ≠ r → t.row k = s.row k) ∧
      (r.val < 20 → t.mot = s.mot) ∧ (CutSafe s → t.light = s.light) ∧
      t = { s with tab := t.tab, mot := t.mot, light := t.light }

/-- R60, R61: a PLACE that passes the checks of R59 and finds room. The entry is brought into range, replaces the entry
of its origin and target if there is one, and stands at the tail; the reply carries the number of entries and the tail's
position. What has changed of the resolved values is handed on (R68): a heating mode OFF reaches the call and the heater, a
pump mode the pump, within the operation (R95, R97 to R99, R118). -/
def Obligations.PlacePutsEntryAtTail : Prop :=
  ∀ (l : Link) (tag target : Byte) (level : BitVec 16) (prec hold : BitVec 4) (secs : BitVec 16) (s : State),
    Ready l s → target.toNat ≤ 24 → s.admits l (s.targetZone target.toNat) = true →
    functionOwned target.toNat = false → hold.toNat ≤ 2 →
    s.reg.length < 32 ∨ (∃ e ∈ s.reg, e.origin = l.origin ∧ e.target = target.toNat) →
    let n := target.toNat
    let v := level.toNat
    let ceiling := (s.set.links.get l).ceiling
    let placed :=
      if n = 22 then min 3 v else if n = 23 then max 10 (min 60 v) else if n = 24 then min 1 v
      else if 12 ≤ n then min 1000 v else if v = 0 then 0 else 1000
    let clamped : Prop :=
      ceiling < prec.toNat ∨ (n = 22 ∧ 3 < v) ∨ (n = 23 ∧ (v < 10 ∨ 60 < v)) ∨ (n = 24 ∧ 1 < v) ∨
        (n < 22 ∧ 1000 < v) ∨ (hold.toNat = 1 ∧ (secs.toNat < 1 ∨ 65534 < secs.toNat))
    let entry : Entry :=
      { origin := l.origin, target := n, level := placed, prec := min ceiling prec.toNat
        hold :=
          if hold.toNat = 0 then .persist
          else if hold.toNat = 1 then .timed (max 1 (min 65534 secs.toNat)) else .tethered }
    ∃ (t : State) (st : Status), exec (.place l tag target level prec hold secs) s = .next t ∧
      t.reg = s.reg.filter (fun e => !(e.origin == l.origin && e.target == n)) ++ [entry] ∧
      (clamped → st = .clamped) ∧ (¬clamped → st = .ok) ∧
      Replied l 0x01 tag st [byteOf t.reg.length, byteOf (t.reg.length - 1)] s t ∧
      HandedOn s t ∧ Announced [l.origin] s t ∧ LinksKept l 0x01 s t ∧
      t = { s with
        reg := t.reg, clim := t.clim, water := t.water, tab := t.tab, light := t.light, links := t.links, can := t.can }

/-- R49, R52, R59, R61, R62, R63, R134, R146, R158: the refusals of the owners in the order of their checks; all but the
link's timer and the reply stay as they were. NOT_PERMITTED, which also raises REFUSED_PERMISSION, is another
statement's, and the refusals of CONFIGURE, SAVE, CLOSE_DRAIN and MOTION stand with their requests. An index of an item
without one is not compared (log 16). -/
def Obligations.OwnerRefusalsChangeNothing : Prop :=
  ∀ (l : Link) (tag : Byte) (s : State), Ready l s →
    let refused := fun (i : Instr) (kind : Byte) (st : Status) =>
      ∃ t, exec i s = .next t ∧ Replied l kind tag st [] s t ∧
        (∀ k, t.lk k = { afterFrame l kind s k with sent := (t.lk k).sent }) ∧
        t = { s with links := t.links, can := t.can }
    (∀ (target : Byte) (level : BitVec 16) (prec hold : BitVec 4) (secs : BitVec 16),
      let place := Instr.place l tag target level prec hold secs
      let own := functionOwned target.toNat
      (24 < target.toNat → refused place 0x01 .badTarget ∧ refused (.withdraw l tag target) 0x02 .badTarget) ∧
        (target.toNat ≤ 24 → s.admits l (s.targetZone target.toNat) = true →
          (own = true → refused place 0x01 .functionOwned) ∧
          (own = false → 2 < hold.toNat → refused place 0x01 .badValue) ∧
          (own = false → hold.toNat ≤ 2 → 32 ≤ s.reg.length →
            (∀ e ∈ s.reg, ¬(e.origin = l.origin ∧ e.target = target.toNat)) → refused place 0x01 .registerFull))) ∧
    (∀ (n : Byte) (prec hold : BitVec 4) (secs : BitVec 16),
      let scene := Instr.scene l tag n prec hold secs
      (7 < n.toNat ∨ 2 < hold.toNat → refused scene 0x05 .badValue) ∧
        ∀ i : Fin 8, n.toNat = i.val → hold.toNat ≤ 2 →
          let pairs := tget s.set.light.scenes i
          let new := pairs.filter fun p =>
            !(s.reg.any fun e => e.origin == l.origin && e.target == 12 + p.channel.val)
          (∀ p ∈ pairs, s.admits l (s.cfg (lightRec p.channel)).zone = true) → s.reg.length ≤ 32 →
          32 < s.reg.length + new.length → refused scene 0x05 .registerFull) ∧
    (s.admits l .service = true →
      (s.test.seq ≠ .idle → refused (.selftest l tag) 0x0E .busy) ∧
        (s.test.seq = .idle → s.acct.bank = .cut → refused (.selftest l tag) 0x0E .bankCut)) ∧
    (∀ index : Byte,
      (21 < index.toNat → refused (.clearLoadRecord l tag index) 0x0B .badValue) ∧
        (∀ r : RecNo, index.toNat = r.val → 20 ≤ r.val → s.admits l (s.cfg r).zone = true →
          refused (.clearLoadRecord l tag index) 0x0B .badTarget) ∧
        (1 < index.toNat → refused (.clearMotion l tag index) 0x0B .badValue)) ∧
    ∀ item index : Byte,
      let n := index.toNat
      let nothing : Prop :=
        0x10 < item.toNat ∨ item = 0x00 ∧ 21 < n ∨ item = 0x07 ∧ 1 < n ∨ item = 0x08 ∧ 7 < n ∨
          item = 0x09 ∧ s.reg.length ≤ n ∨ item = 0x0B ∧ 7 < n ∨ item = 0x0C ∧ 5 < n ∨ item = 0x0E ∧ 2 < n
      (nothing → refused (.read l tag item index 0) 0x06 .badValue) ∧
        ∀ part : Byte, part ≠ 0 →
          (∀ x, (s.lk l).snapshot = some x → x.item = item → x.index = indexFor item index →
            x.content.length ≤ 4 * part.toNat) → refused (.read l tag item index part) 0x06 .badValue

/-- R63, R72: WITHDRAW removes the link's own entry of the target, WITHDRAW_ALL every entry of the link, the DEMANDS group
reset every entry; the reply of a withdrawal carries the number removed and the number held. What has changed of the
resolved values is handed on, heating and pump mode included (R68, R95, R97 to R99, R118). -/
def Obligations.WithdrawRemovesOwnEntries : Prop :=
  ∀ (l : Link) (tag : Byte) (s : State), Ready l s →
    (∀ target : Byte, target.toNat ≤ 24 →
      ∃ t, exec (.withdraw l tag target) s = .next t ∧
        t.reg = s.reg.filter (fun e => !(e.origin == l.origin && e.target == target.toNat)) ∧
        Replied l 0x02 tag .ok [byteOf (s.reg.length - t.reg.length), byteOf t.reg.length] s t ∧ HandedOn s t ∧
        Announced (if t.reg = s.reg then [] else [l.origin]) s t ∧ LinksKept l 0x02 s t ∧
        t = { s with
          reg := t.reg, clim := t.clim, water := t.water, tab := t.tab, light := t.light, links := t.links
          can := t.can }) ∧
    (∃ t, exec (.withdrawAll l tag) s = .next t ∧ t.reg = s.reg.filter (fun e => !(e.origin == l.origin)) ∧
      Replied l 0x03 tag .ok [byteOf (s.reg.length - t.reg.length), byteOf t.reg.length] s t ∧ HandedOn s t ∧
      Announced (if t.reg = s.reg then [] else [l.origin]) s t ∧ LinksKept l 0x03 s t ∧
      t = { s with
        reg := t.reg, clim := t.clim, water := t.water, tab := t.tab, light := t.light, links := t.links
        can := t.can }) ∧
    ((s.set.links.get l).configRight = true →
      ∃ t, exec (.resetDemands l tag) s = .next t ∧ t.reg = [] ∧ Replied l 0x0C tag .ok [] s t ∧ HandedOn s t ∧
        Announced (s.reg.map (·.origin)) s t ∧ LinksKept l 0x0C s t ∧
        t = { s with
          reg := t.reg, clim := t.clim, water := t.water, tab := t.tab, light := t.light, links := t.links
          can := t.can })

/-- R64: one expiry of the 1-second timer in RUN. Every TIMED entry loses one second and those that reach 0 are removed;
the fall alone is no change for the echo. -/
def Obligations.SecondAgesTimedEntries : Prop :=
  ∀ s : State, s.phase = .run → (∀ e ∈ s.reg, e.hold ≠ .timed 0) →
    ∃ t, exec .oneSecondTimerExpiry s = .next t ∧
      t.reg = (s.reg.filter fun e => e.hold != .timed 1).map (fun e =>
        match e.hold with
        | .timed n => { e with hold := .timed (n - 1) }
        | _ => e) ∧
      HandedOn s t ∧ Announced ((s.reg.filter fun e => e.hold == .timed 1).map (·.origin)) s t ∧ LinksQuiet s t ∧
      t = { s with
        reg := t.reg, clim := t.clim, water := t.water, tab := t.tab, light := t.light, links := t.links }

/-- R146: a SCENE whose pairs name no channel twice, all in the link's membership and with room for the new entries: its
pairs stand at the tail in list order, each brought into range by R60. -/
def Obligations.ScenePlacesItsPairs : Prop :=
  ∀ (l : Link) (tag n : Byte) (prec hold : BitVec 4) (secs : BitVec 16) (s : State) (i : Fin 8),
    Ready l s → n.toNat = i.val → hold.toNat ≤ 2 →
    let pairs := tget s.set.light.scenes i
    let own := fun (e : Entry) => e.origin == l.origin && pairs.any fun p => e.target == 12 + p.channel.val
    (pairs.map (·.channel)).Nodup → (∀ p ∈ pairs, p.level ≤ 1000) →
    (∀ p ∈ pairs, s.admits l (s.cfg (lightRec p.channel)).zone = true) →
    s.reg.length + pairs.length ≤ 32 + (s.reg.filter own).length → s.reg.length ≤ 32 →
    s.reg.Pairwise (fun a b => ¬(a.origin = b.origin ∧ a.target = b.target)) →
    let ceiling := (s.set.links.get l).ceiling
    let clamped : Prop :=
      pairs ≠ [] ∧ (ceiling < prec.toNat ∨ (hold.toNat = 1 ∧ (secs.toNat < 1 ∨ 65534 < secs.toNat)))
    ∃ (t : State) (st : Status), exec (.scene l tag n prec hold secs) s = .next t ∧
      t.reg = s.reg.filter (fun e => !own e) ++ pairs.map (fun p =>
        { origin := l.origin, target := 12 + p.channel.val, level := p.level
          prec := min ceiling prec.toNat
          hold :=
            if hold.toNat = 0 then .persist
            else if hold.toNat = 1 then .timed (max 1 (min 65534 secs.toNat)) else .tethered }) ∧
      (clamped → st = .clamped) ∧ (¬clamped → st = .ok) ∧
      Replied l 0x05 tag st [byteOf pairs.length, byteOf t.reg.length] s t ∧ HandedOn s t ∧
      Announced (if pairs = [] then [] else [l.origin]) s t ∧ LinksKept l 0x05 s t ∧
      t = { s with
        reg := t.reg, clim := t.clim, water := t.water, tab := t.tab, light := t.light, links := t.links, can := t.can }

/-! ### Links -/

/-- R161: the attention of a link holds exactly in RUN, off OFF, while its pending set and its working mask have a kind in
common; an event entered on link C sends one attention frame exactly where it turns true. EVENTS returns the pending
set and the working mask, sets the mask where the flag says so, and empties the set. Where one operation enters several
events, the frame goes out at the first that turns the condition (log 24). -/
def Obligations.EventsAndAttentionFollowSets : Prop :=
  (∀ (l : Link) (s : State), s.attention l = true ↔
    s.phase = .run ∧ (s.lk l).live ≠ .off ∧ (s.lk l).pending &&& (s.lk l).mask ≠ 0) ∧
  (∀ (e : Event) (l : Link) (s : State),
    let before := (s.lk l).pending
    let after := if s.phase = .resetLow then before else before ||| e.bit
    let mask := (s.lk l).mask
    let t := s.raiseOn l e
    t.lk l = { s.lk l with
      pending := after
      sent :=
        (s.lk l).sent ++
          (if l = .c ∧ s.phase = .run ∧ (s.lk l).live ≠ .off ∧ before &&& mask = 0 ∧ after &&& mask ≠ 0 then
            [{ id := some (BitVec.ofNat 29 (0x0CF0A200 + s.can.node))
               payload :=
                { kind := 0xC0, tag := 0, b2 := (after &&& mask).extractLsb' 0 8, b3 := (after &&& mask).extractLsb' 8 8
                  b4 := after.extractLsb' 0 8, b5 := after.extractLsb' 8 8, b6 := 0, b7 := 0 } }]
          else []) } ∧
      (∀ k, k ≠ l → t.lk k = s.lk k) ∧ t = { s with links := t.links }) ∧
  ∀ (l : Link) (tag flags : Byte) (mask : BitVec 16) (s : State), Ready l s →
    let m := if flags.getLsbD 0 then mask &&& 0x03FF else (s.lk l).mask
    ∃ t, exec (.events l tag flags mask) s = .next t ∧
      t.lk l = { afterFrame l 0x07 s l with pending := 0, mask := m, sent := (t.lk l).sent } ∧
      (∀ k, k ≠ l → t.lk k = s.lk k) ∧ t.attention l = false ∧
      Replied l 0x07 tag .ok (le16 (s.lk l).pending ++ le16 m) s t ∧ t = { s with links := t.links, can := t.can }

/-- R155, R157: a KEEPALIVE replies OK and restarts the silence timer in either mode, with the periods as they stand
configured. On a LAPSED link it also returns the link to ACT and is reported to the other two links. -/
def Obligations.KeepaliveRestartsTimerAndReturnsLink : Prop :=
  (∀ (l : Link) (tag : Byte) (s : State), Ready l s →
    ∃ t, exec (.keepalive l tag) s = .next t ∧
      t.lk l = { s.lk l with
        timer := some 0, shortTaken := false, longTaken := false, shortN := (s.set.links.get l).shortN
        longN := (s.set.links.get l).longN, sent := (t.lk l).sent } ∧
      (∀ k, k ≠ l → t.lk k = s.lk k) ∧ Replied l 0x08 tag .ok [] s t ∧
      t = { s with links := t.links, can := t.can }) ∧
  ∀ (l : Link) (tag : Byte) (s : State), s.phase = .run → (s.lk l).live = .lapsed → (s.lk l).rxQueue = [] →
    s.blocked l = false → s.handling = none →
    ∃ t, exec (.keepalive l tag) s = .next t ∧
      (∀ k, t.lk k =
        if k = l then { (s.lk k).restarted (s.set.links.get k) with live := .act, sent := (t.lk k).sent }
        else { s.lk k with pending := (s.lk k).pending ||| Event.link.bit, sent := (t.lk k).sent }) ∧
      Replied l 0x08 tag .ok [] s t ∧ t = { s with links := t.links, can := t.can }

/-- R136, R160: an accepted VEHICLE makes the speed known and restarts its age; when the age runs out the speed becomes
UNKNOWN. Where neither VEHICLE_MOVING nor knowing the speed changes, nothing is handed on; where one changes, a
VEHICLE event is entered on every link. Where VEHICLE_MOVING becomes true, or the speed UNKNOWN with IGN on, the step
meets a drive-away (log 19), else both motion controllers, record 21 and the log stay. Of the load table the standing
orders on VEHICLE_MOVING evaluate the records that they name, and no other. The age runs out when its row is commanded
(log 10). -/
def Obligations.VehicleSpeedIsKnownUntilItAges : Prop :=
  (∀ (tag : Byte) (speed : BitVec 16) (s : State), Ready .c s →
    let v := min 250 speed.toNat
    let changed := s.vehicle.speed = none ∨ (s.vehicleMoving != decide (3 ≤ v)) = true
    ∃ t, exec (.vehicle .c tag speed) s = .next t ∧ t.vehicle = { speed := some v, age := 0 } ∧
      Replied .c 0x09 tag (if 250 < speed.toNat then .clamped else .ok) [] s t ∧ LinksKept .c 0x09 s t ∧
      (changed → ∀ k, (t.lk k).pending.getLsbD Event.vehicle.no = true) ∧
      (¬changed → (∀ k, (t.lk k).pending = (s.lk k).pending) ∧
        t = { s with vehicle := t.vehicle, links := t.links, can := t.can }) ∧
      (s.vehicleMoving = false ∧ 3 ≤ v → DroveAway s t) ∧
      (¬(s.vehicleMoving = false ∧ 3 ≤ v) → t.mot = s.mot ∧ t.log = s.log ∧ t.row 21 = s.row 21) ∧
      MovingEvaluated s t ∧
      t = { s with
        vehicle := t.vehicle, tab := t.tab, light := t.light, mot := t.mot, links := t.links, can := t.can
        log := t.log }) ∧
  ∀ s : State, s.phase = .run → s.vehicle.speed.isSome = true →
    ∃ t, exec .vehicleAgeExpiry s = .next t ∧ t.vehicle = { speed := none, age := 0 } ∧ LinksQuiet s t ∧
      (∀ k, (t.lk k).pending.getLsbD Event.vehicle.no = true) ∧
      (s.mu.ign = true → DroveAway s t) ∧
      (s.mu.ign = false → t.mot = s.mot ∧ t.log = s.log ∧ t.row 21 = s.row 21) ∧ MovingEvaluated s t ∧
      t = { s with
        vehicle := t.vehicle, tab := t.tab, light := t.light, mot := t.mot, links := t.links, log := t.log }

/-- R158: part 0 of an item takes a snapshot of its content as the state stands once the READ has restarted the timer; a
later part is answered from the held snapshot of the same item and index, whatever has changed since. Each reply carries
the number of parts and four bytes, the last part padded with 0. The index of an item that is read without one is taken
as 0 and not compared, which is the model's choice (log 16). -/
def Obligations.ReadAnswersFromSnapshot : Prop :=
  ∀ (l : Link) (tag item index : Byte) (s : State), Ready l s →
    let now : State :=
      { s with links := { c := afterFrame l 0x06 s .c, p := afterFrame l 0x06 s .p, t := afterFrame l 0x06 s .t } }
    (∀ content, now.itemContent item.toNat (indexFor item index).toNat = some content → 0 < content.length →
      ∃ t, exec (.read l tag item index 0) s = .next t ∧
        t.lk l = { afterFrame l 0x06 s l with
          snapshot := some { item := item, index := indexFor item index, content := content }
          sent := (t.lk l).sent } ∧
        (∀ k, k ≠ l → t.lk k = s.lk k) ∧
        Replied l 0x06 tag .ok
          [byteOf ((content.length + 3) / 4), content.getD 0 0, content.getD 1 0, content.getD 2 0, content.getD 3 0]
          s t ∧
        t = { s with links := t.links, can := t.can }) ∧
    ∀ (part : Byte) (x : Snapshot), part ≠ 0 → (s.lk l).snapshot = some x → x.item = item →
      x.index = indexFor item index → 4 * part.toNat < x.content.length →
      ∃ t, exec (.read l tag item index part) s = .next t ∧
        t.lk l = { afterFrame l 0x06 s l with sent := (t.lk l).sent } ∧ (∀ k, k ≠ l → t.lk k = s.lk k) ∧
        Replied l 0x06 tag .ok
          [byteOf ((x.content.length + 3) / 4), x.content.getD (4 * part.toNat) 0,
            x.content.getD (4 * part.toNat + 1) 0, x.content.getD (4 * part.toNat + 2) 0,
            x.content.getD (4 * part.toNat + 3) 0] s t ∧
        t = { s with links := t.links, can := t.can }

/-- R26, R44, R54, R71, R74, R91, R109, R122, R140, R144, R158, R165, R168, R19: the content of each item: the fields in
the order the owning chapter gives them, two bytes each but for Q, C_eff and the throughput, low byte first, an absent
field 0xFFFF. The numbers of names are their places in their lists, and flags 1 or 0, or 0 and 1 where a table lists the
positive value first; a stopped retry timer, a target of no pending movement out, the age while the speed is UNKNOWN and
temperatures not yet measured are sent as absent (log 7, log 16, log 19, log 20). -/
def Obligations.ReadItemsHoldTheirFields : Prop :=
  ∀ s : State,
    let w := fun (n : Nat) => [byteOf n, byteOf (n / 256)]
    let long := fun (n : Nat) => w n ++ w (n / 65536)
    let none2 : List Byte := [0xFF, 0xFF]
    let opt := fun (x : Option Nat) => (x.map w).getD none2
    let temp := fun (x : Option Int) => ((x.map fun v => w (v % 65536).toNat)).getD none2
    let on := fun (b : Bool) => w (if b then 1 else 0)
    let set := fun (b : Bool) => w (if b then 0 else 1)
    let bys : List WantedBy := [.c, .p, .t, .door, .step, .rest, .function, .motion]
    let zones : List Zone := [.living, .sleep, .cab, .exterior, .service]
    let prots : List Prot := [.normal, .tripped, .retryWait, .unprotected]
    let out := fun (r : RecNo) => on (s.driveOn r)
    let amps := fun (r : RecNo) => w (tget s.mu.currents r)
    (∀ r : RecNo, s.itemContent 0x00 r.val = some (
      let x := s.row r
      let c := s.cfg r
      let drives := if recDriver r = .register then 0 else if recDriver r = .function then 1 else 2
      w r.val ++ w r.val ++ w (if r.val < 12 then 0 else if r.val < 20 then 1 else 2) ++ w (zones.idxOf c.zone) ++
        w c.cls ++ w drives ++ w c.rated ++ (if r = 1 then w c.surge else none2) ++
        (if isRegisterRec r.val then w c.rest else none2) ++
        (if r.val < 20 then w (if c.policy = .auto then 0 else 1) else none2) ++ w x.wanted ++
        w (bys.idxOf x.wantedBy) ++ w x.ordered ++ opt (x.orderSlot.map (·.val)) ++
        w (if x.alloc = .granted then 0 else 1) ++ w x.granted ++ w (prots.idxOf x.prot) ++
        (if h : 12 ≤ r.val ∧ r.val < 20 then w (tget s.light.out ⟨r.val - 12, by omega⟩) else out r) ++ amps r ++
        if r.val < 20 then w x.bucket ++ w x.retryCount ++ if x.prot = .retryWait then w x.retryTimer else none2
        else [])) ∧
    s.itemContent 0x01 0 = some (
      let a := s.acct
      long a.q ++ long a.cEff ++ w a.socPm ++
        w (([.unsynced, .synced, .manual, .drifting] : List SyncState).idxOf a.sync) ++ w a.effReserve ++
        w (([.normal, .reserve, .cut] : List BankState).idxOf a.bank) ++ w a.iCeiling ++ long a.throughput ++
        w a.fullCounter ++ w a.cutCounter ++ w a.recoveryCounter ++ w (if a.hardPath = .armed then 0 else 1)) ∧
    s.itemContent 0x02 0 = some (
      let a := s.alloc
      let one := fun (c : LoadClass) =>
        let x := a.cls.get c
        w x.demand ++ w x.grant ++ w x.dim ++
          (match x.cand with
            | .none => none2
            | .dim d => w d
            | .record r => w r.val) ++ w x.counter
      w a.pool ++ w a.hBank ++ w a.taper ++ w a.d3 ++ one .c0 ++ one .c1 ++ one .c2) ∧
    s.itemContent 0x03 0 = some (
      let c := s.chg
      w (([.allowed, .coldHold, .hotHold, .absorbHold] : List Permission).idxOf c.permission) ++ set c.absorb ++
        on c.shoreEn ++ on c.solarEn ++ on c.altEn ++ w c.altTimer ++ set c.warmerReq ++ set c.warmerDrop ++ w c.iIn) ∧
    s.itemContent 0x04 0 = some (
      let c := s.clim
      let busy := s.phase = .run ∧ (c.heater = .start ∨ c.heater = .run)
      w (([.off, .frost, .eco, .comfort] : List HeatMode).idxOf c.mode) ++ w (bys.idxOf c.modeBy) ++ w c.setpoint ++
        w (bys.idxOf c.setpointBy) ++
        (match c.mode with
          | .off => none2
          | .frost => w 10
          | .eco => w (max 10 (c.setpoint - 6))
          | .comfort => w c.setpoint) ++ set c.call ++
        w (([.off, .waitBudget, .start, .run, .coolDown, .lockout] : List HeaterState).idxOf c.heater) ++
        w c.failCount ++ w c.startTimer ++ w c.coolTimer ++ set c.faultMark ++ on (decide busy) ++ on s.mu.flame ++
        on s.mu.htrFlt ++ temp c.tCabin) ∧
    s.itemContent 0x05 0 = some (
      w (if s.clim.drain = .opened then 0 else 1) ++
        w (([.powerOn, .frost, .cut, .channel] : List OpenCause).idxOf s.clim.openCause) ++ out 2 ++
        temp s.clim.tValve) ∧
    s.itemContent 0x06 0 = some (
      let x := s.water
      w x.ratio ++ w x.rawLevel ++ w x.level ++
        w (([.empty, .low, .mid, .high, .full] : List Band).idxOf x.band) ++ set x.held ++ w x.greyLevel ++
        set x.greyFull ++ on s.mu.g25 ++ on s.mu.g50 ++ on s.mu.g75 ++ on s.mu.g100 ++
        w (if x.mode = .off then 0 else 1) ++ w (bys.idxOf x.modeBy) ++ w (if x.drain = .opened then 0 else 1) ++
        w (([.off, .idle, .running, .inhibited, .dryLock] : List PumpState).idxOf x.pump) ++
        w (([some .dry, some .trip, none] : List (Option LockCause)).idxOf x.lockCause) ++ w x.levelAtLock ++
        w x.dryTimer ++ on s.mu.press ++ out 0 ++ w (if (s.row 0).alloc = .granted then 0 else 1)) ∧
    (∀ d : Device, s.itemContent 0x07 (if d = .awning then 0 else 1) = some (
      let m := s.mot.get d
      let i := s.inputs d
      let dirs : List (Option Dir) := [some .outward, some .inward, none]
      let lamp :=
        if s.phase ≠ .run then 0
        else match m.state with
          | .stowed => 0
          | .latched => 0
          | .deployed => 1
          | .halted => 1
          | .fault _ => 3
          | _ => 2
      let pends :=
        match m.state with
        | .pause (.outward p) => w 0 ++ w p
        | .pause .inward => w 1 ++ none2
        | _ => w 2 ++ none2
      let number :=
        match m.state with
        | .stowed => 0
        | .deploying => 1
        | .deployed => 2
        | .stowing => 3
        | .halted => 4
        | .pause _ => 5
        | .fault _ => 6
        | .latched => 7
      let cause :=
        match m.state with
        | .fault c => w (([.stall, .timeout, .sensor, .latch] : List FaultCause).idxOf c)
        | _ => none2
      w number ++ cause ++ pends ++ w (if m.state = .deploying then 0 else if m.state = .stowing then 1 else 2) ++
        w (dirs.idxOf m.lastDir) ++ w m.rest ++ w m.runMs ++
        w (min 1000 (m.runMs * 1000 / (s.inForce.tFull.get d * 1000))) ++ w m.target ++ w m.travel ++ w m.stall ++
        w lamp ++ on i.inSw ++ on i.outSw ++ on i.latch ++ on i.button ++ out d.motor ++ amps d.motor ++
        if d = .awning then w s.wind.speed ++ w s.wind.count ++ set s.wind.lock ++ w s.wind.timer else [])) ∧
    (∀ n : Fin 8, s.itemContent 0x08 n.val = some (
      let r := lightRec n
      let x := s.row r
      let cls := tget s.inForce.cls r
      w r.val ++ w (zones.idxOf (s.cfg r).zone) ++ w cls ++ w x.wanted ++ w (bys.idxOf x.wantedBy) ++ w x.ordered ++
        opt (x.orderSlot.map (·.val)) ++ w (if x.alloc = .granted then 0 else 1) ++ w x.granted ++
        w (if cls = 0 then s.light.dims.c0 else if cls = 1 then s.light.dims.c1 else if cls = 2 then s.light.dims.c2
          else 1000) ++
        w (if s.lit r then x.granted else 0) ++ w (tget s.light.out n) ++ w (tget s.set.light.fade n) ++
        w (prots.idxOf x.prot) ++ amps r ++ on (s.set.light.courtesySet.getLsbD n.val) ++
        on (decide (s.set.light.stepLight = n)))) ∧
    (∀ (k : Nat) (e : Entry), s.reg[k]? = some e → s.itemContent 0x09 k = some (
      w (([.c, .p, .t, .door, .step] : List Origin).idxOf e.origin) ++ w e.target ++ w e.level ++ w e.prec ++
        match e.hold with
        | .persist => w 0 ++ none2
        | .timed n => w 1 ++ w n
        | .tethered => w 2 ++ none2)) ∧
    s.itemContent 0x0A 0 = some (w s.reg.length ++ w (32 - s.reg.length)) ∧
    (∀ k : Fin 8, s.itemContent 0x0B k.val = some (
      let x := tget s.set.slots k
      let conditions : List Condition :=
        [.ignitionOn, .engineRunning, .vehicleMoving, .shorePresent, .bankReserve, .bankCold, .cabinDoorOpen, .greyFull]
      on x.enabled ++ w (conditions.idxOf x.condition) ++ w x.target.val ++ w (if x.action = .force then 0 else 1) ++
        w x.level ++ on (s.condTrue x.condition) ++ on (x.enabled && s.condTrue x.condition))) ∧
    (∀ (k a b : Nat), (k, a, b) ∈ [(0, 0, 3), (1, 3, 3), (2, 6, 3), (3, 9, 5), (4, 14, 4), (5, 18, 4)] →
      ∀ kinds : List (Fin 22), kinds.map (·.val) = List.range' a b →
        s.itemContent 0x0C k = some (
          (kinds.flatMap fun i =>
            set (tget s.log.status i) ++ w (tget s.log.count i) ++
              w (if tget s.set.severity i = .notice then 0 else 1) ++ on (s.set.faultMask.getLsbD i.val)) ++
            set s.log.faultN)) ∧
    s.itemContent 0x0D 0 = some (
      match s.log.capture with
      | none => w 0 ++ (List.replicate 9 none2).flatten
      | some c =>
        w 1 ++ w c.kind.no.val ++ le16 (Config.blockCode c.block.no) ++
          (match c.origin with
            | .link l => w l.no
            | .button => w 3
            | .block b => le16 (Config.blockCode b.no)) ++
          opt c.target ++ c.bytes.getD (none2 ++ none2) ++ w c.socPm ++ w (c.time / 65536) ++ w c.time) ∧
    (∀ l : Link, s.itemContent 0x0E l.no = some (
      let c := s.set.links.get l
      let k := s.lk l
      w (([.off, .watch, .act] : List Standing).idxOf c.standing) ++
        w (([.off, .watch, .act, .lapsed] : List LiveStanding).idxOf k.live) ++ w c.membership.toNat ++ w c.ceiling ++
        on c.configRight ++ w (if c.silenceMode = .auto then 0 else 1) ++ w c.shortN ++ w c.longN ++
        opt (k.timer.map (· / 250)) ++ w k.pending.toNat ++ w k.mask.toNat ++ w k.echo.toNat ++
        set (k.pending &&& k.mask != 0) ++ w k.rxQueue.length ++
        if l = .c then
          w s.set.node ++ opt s.vehicle.speed ++ if s.vehicle.speed = none then none2 else w s.vehicle.age
        else [])) ∧
    s.itemContent 0x0F 0 = some (
      (match s.test.seq with
        | .idle => w 0 ++ none2
        | .running slot _ => w 1 ++ w slot.val) ++
        s.test.results.toList.flatMap fun x =>
          w (([.none, .pass, .fail, .skipped, .aborted] : List TestResult).idxOf x)) ∧
    s.itemContent 0x10 0 = some (
      w (if s.store.image = .valid then 0 else 1) ++ on s.store.modified ++ on s.store.saving.isSome)

/-- R65, R157: the short period of a running timer reports SHORT_SILENCE once, with no effect on the standing. At the
long period a link in ACT lapses, loses its TETHERED entries, which is an operation of the register with its hand-overs
and events (R70, R108, R118), and is reported to the other two; a link in WATCH keeps
its standing and is reported. The timer stops. The periods run out when their rows are commanded (log 10). -/
def Obligations.SilenceIsReportedAndLapsesLink : Prop :=
  (∀ (l : Link) (s : State), s.phase = .run → (s.lk l).live ≠ .off → (s.lk l).timer.isSome = true →
    (s.lk l).shortTaken = false →
    ∃ t, exec (.shortSilence l) s = .next t ∧
      (∀ k, t.lk k = { s.lk k with
        shortTaken := if k = l then true else (s.lk k).shortTaken
        timer := if k = l then some (2 ^ (s.lk l).shortN * 250) else (s.lk k).timer
        pending := (s.lk k).pending ||| Event.incident.bit, sent := (t.lk k).sent }) ∧
      LogTook .shortSilence s t ∧ FaultFormed t ∧ exec (.shortSilence l) t = .next t ∧
      t = { s with links := t.links, log := t.log }) ∧
  ∀ (l : Link) (s : State), s.phase = .run → (s.lk l).timer.isSome = true → (s.lk l).longTaken = false →
    ((s.lk l).live = .act →
      ∃ t, exec (.longSilence l) s = .next t ∧
        t.reg = s.reg.filter (fun e => !(e.origin == l.origin && e.hold == .tethered)) ∧ HandedOn s t ∧
        LogTook .longSilence s t ∧ FaultFormed t ∧
        (∀ k, t.lk k = { s.lk k with
          live := if k = l then .lapsed else (s.lk k).live
          timer := if k = l then none else (s.lk k).timer
          longTaken := if k = l then true else (s.lk k).longTaken
          pending := (s.lk k).pending ||| registerEvents (if t.reg = s.reg then [] else [l.origin]) s t k |||
            Event.incident.bit ||| if k = l then 0 else Event.link.bit
          sent := (t.lk k).sent }) ∧
        t = { s with
          reg := t.reg, clim := t.clim, water := t.water, tab := t.tab, light := t.light, links := t.links
          log := t.log }) ∧
    ((s.lk l).live = .watch →
      ∃ t, exec (.longSilence l) s = .next t ∧
        (∀ k, t.lk k = { s.lk k with
          timer := if k = l then none else (s.lk k).timer
          longTaken := if k = l then true else (s.lk k).longTaken
          pending := if k = l then (s.lk k).pending ||| Event.incident.bit
            else (s.lk k).pending ||| Event.incident.bit ||| Event.link.bit
          sent := (t.lk k).sent }) ∧
        LogTook .longSilence s t ∧ FaultFormed t ∧ t = { s with links := t.links, log := t.log })

/-- R152: a whole frame on a UART whose receiver hunts stands at the tail of the receive queue with a matching CRC,
and is dropped with MALFORMED with any other. Byte by byte, a hunting receiver takes 0xA5 and discards any other
byte, a byte inside a frame is collected, and a gap abandons the partial frame. R153, R154: a CAN data frame with the
part's own identifier and eight bytes is queued; one of another length, or one that meets four queued frames, is dropped
with MALFORMED; any other identifier and any remote frame is ignored. The controller delivers the oldest waiting reply.
A gap and the byte that ends it are two commands (log 30). -/
def Obligations.LinesReceiveFrames : Prop :=
  (∀ (l : Link) (f : Frame) (crc : Byte) (s : State), l ≠ .c → s.phase ≠ .resetLow → (s.lk l).part = none →
    (crc = crc8 f.bytes → (s.lk l).rxQueue.length < 4 →
      ∃ t, exec (.uartFrameReceived l f crc) s = .next t ∧
        t.lk l = { s.lk l with rxQueue := (s.lk l).rxQueue ++ [f] } ∧ (∀ k, k ≠ l → t.lk k = s.lk k) ∧
        t = { s with links := t.links }) ∧
    (crc ≠ crc8 f.bytes ∨ 4 ≤ (s.lk l).rxQueue.length →
      ∃ t, exec (.uartFrameReceived l f crc) s = .next t ∧ LogTook .malformed s t ∧
        (∀ k, t.lk k = { s.lk k with pending := (s.lk k).pending ||| Event.incident.bit, sent := (t.lk k).sent }) ∧
        t = { s with links := t.links, log := t.log })) ∧
  (∀ (l : Link) (b : Byte) (s : State), l ≠ .c → s.phase ≠ .resetLow →
    ((s.lk l).part = none → b ≠ 0xA5 → exec (.uartByteReceived l b) s = .next s) ∧
    ((s.lk l).part = none → b = 0xA5 →
      ∃ t, exec (.uartByteReceived l b) s = .next t ∧ t.lk l = { s.lk l with part := some [] } ∧
        (∀ k, k ≠ l → t.lk k = s.lk k) ∧ t = { s with links := t.links }) ∧
    (∀ bs, (s.lk l).part = some bs → bs.length < 8 →
      ∃ t, exec (.uartByteReceived l b) s = .next t ∧ t.lk l = { s.lk l with part := some (bs ++ [b]) } ∧
        (∀ k, k ≠ l → t.lk k = s.lk k) ∧ t = { s with links := t.links }) ∧
    ∃ t, exec (.frameGapTimeout l) s = .next t ∧ t.lk l = { s.lk l with part := none } ∧
      (∀ k, k ≠ l → t.lk k = s.lk k) ∧ t = { s with links := t.links }) ∧
  (∀ (id : BitVec 29) (remote : Bool) (data : List Byte) (s : State), s.phase ≠ .resetLow →
    let own : Prop := remote = false ∧ id = BitVec.ofNat 29 (0x0CF0A100 + s.can.node)
    (¬own → exec (.canFrameReceived id remote data) s = .next s) ∧
    (∀ f : Frame, own → data = f.bytes → (s.lk .c).rxQueue.length < 4 →
      ∃ t, exec (.canFrameReceived id remote data) s = .next t ∧
        t.lk .c = { s.lk .c with rxQueue := (s.lk .c).rxQueue ++ [f] } ∧ (∀ k, k ≠ .c → t.lk k = s.lk k) ∧
        t = { s with links := t.links }) ∧
    (own → data.length ≠ 8 ∨ 4 ≤ (s.lk .c).rxQueue.length →
      ∃ t, exec (.canFrameReceived id remote data) s = .next t ∧ LogTook .malformed s t ∧
        (∀ k, t.lk k = { s.lk k with pending := (s.lk k).pending ||| Event.incident.bit, sent := (t.lk k).sent }) ∧
        t = { s with links := t.links, log := t.log })) ∧
  ∀ (r : OutFrame) (rest : List OutFrame) (s : State), s.can.replies = r :: rest →
    ∃ t, exec .canReplySent s = .next t ∧ t.can = { s.can with replies := rest } ∧
      t.lk .c = { s.lk .c with sent := (s.lk .c).sent ++ [r] } ∧ (∀ k, k ≠ .c → t.lk k = s.lk k) ∧
      t = { s with can := t.can, links := t.links }

/-- R153 to R155, R157: any request of a known kind on a LAPSED link is served as on the link returned to ACT, its timer
restarted and the return reported to the other two. A request that finds frames in its receive queue is served when it
is the frame at the head, which leaves the queue and is answered before the next; behind other frames it takes its place
at the tail, or is dropped with MALFORMED where four wait. On link C with four replies waiting none is handled. The row
stands for its frame (log 2). -/
def Obligations.QueuedFramesAndLapsedLinks : Prop :=
  ∀ (i : Instr) (l : Link) (f : Frame) (s : State), i.wellFormed = true → requestFrame i = some (l, f) →
    s.phase = .run → s.handling = none →
    (f.known = true → (s.lk l).live = .lapsed → (s.lk l).rxQueue = [] → s.blocked l = false →
      ∃ u : State, exec i s = exec i u ∧ Ready l u ∧
        (∀ k, u.lk k =
          if k = l then { (s.lk k).restarted (s.set.links.get k) with live := .act }
          else { s.lk k with pending := (s.lk k).pending ||| Event.link.bit, sent := (u.lk k).sent }) ∧
        u = { s with links := u.links }) ∧
    ((s.lk l).rxQueue = [] → s.blocked l = true →
      ∃ t, exec i s = .next t ∧ t.lk l = { s.lk l with rxQueue := [f] } ∧ (∀ k, k ≠ l → t.lk k = s.lk k) ∧
        t = { s with links := t.links }) ∧
    ∀ (g : Frame) (rest : List Frame), (s.lk l).rxQueue = g :: rest →
      (decodeRequest l g ≠ i → rest.length < 3 →
        ∃ t, exec i s = .next t ∧ t.lk l = { s.lk l with rxQueue := g :: rest ++ [f] } ∧
          (∀ k, k ≠ l → t.lk k = s.lk k) ∧ t = { s with links := t.links }) ∧
      (decodeRequest l g ≠ i → 3 ≤ rest.length →
        ∃ t, exec i s = .next t ∧ LogTook .malformed s t ∧
          (∀ k, t.lk k = { s.lk k with pending := (s.lk k).pending ||| Event.incident.bit, sent := (t.lk k).sent }) ∧
          t = { s with links := t.links, log := t.log }) ∧
      (decodeRequest l g = i → s.blocked l = true → exec i s = .next s) ∧
      (decodeRequest l g = i → s.blocked l = false →
        let s' : State := { s with links := s.links.set l { s.links.get l with rxQueue := rest } }
        ((s.lk l).live = .off → exec i s = .next s') ∧
        (g = f → rest = [] → exec i s = exec i s') ∧
        ((s.lk l).live ≠ .off →
          ∃ (t : State) (out : Frame), exec i s = .next t ∧ (t.lk l).rxQueue = rest ∧
            (∀ k, k ≠ l → (t.lk k).rxQueue = (s.lk k).rxQueue) ∧ out.tag = g.tag ∧
            out.kind = (if g.known then 0x80 + g.kind else 0xFF) ∧
            (∀ k, k ≠ .c →
              (t.lk k).sent = if k = l then (s.lk k).sent ++ [{ id := none, payload := out }] else (s.lk k).sent) ∧
            (l = .c → ∃ earlier : List OutFrame,
              t.can.replies = earlier ++ [{ id := some (canReplyId s.can.node), payload := out }])))

/-- R155 steps 1, 2, 4, 5, R170, R171: what the link supervisor makes of any frame before an owner sees it. A kind outside
0x01 to 0x10 is refused UNKNOWN_KIND with the reply kind 0xFF and raises MALFORMED; the silence timer is not restarted. A
known kind whose object or group code names nothing is refused BAD_VALUE. One row carries all these frames (log 17). A
request of a known kind goes unanswered while RST_N is low, is discarded on an OFF link and refused BUSY in LOADING; on a
link in WATCH all but READ, EVENTS and KEEPALIVE are refused LINK_WATCH; no owner acts. The request is presented with its
frame (log 2). -/
def Obligations.SupervisorRefusesBeforeOwner : Prop :=
  (∀ (l : Link) (f : Frame) (s : State), Ready l s →
    ((f.kind.toNat = 0 ∨ 0x10 < f.kind.toNat) →
      ∃ (t : State) (g : Frame), exec (.unknownKind l f) s = .next t ∧ g.kind = 0xFF ∧ g.tag = f.tag ∧ g.b2 = 0x03 ∧
        LogTook .malformed s t ∧ FaultFormed t ∧
        (∀ k, t.lk k = { s.lk k with pending := (s.lk k).pending ||| Event.incident.bit, sent := (t.lk k).sent }) ∧
        (∀ k, k ≠ .c →
          (t.lk k).sent = if k = l then (s.lk k).sent ++ [{ id := none, payload := g }] else (s.lk k).sent) ∧
        t.can.replies =
          (if l = .c then s.can.replies ++ [{ id := some (canReplyId s.can.node), payload := g }]
          else s.can.replies) ∧
        t = { s with links := t.links, log := t.log, can := t.can }) ∧
    (f.kind = 0x0B ∧ 5 < f.b2.toNat ∨ f.kind = 0x0C ∧ 4 < f.b2.toNat ∧ (s.set.links.get l).configRight = true →
      ∃ t, exec (.unknownKind l f) s = .next t ∧ Replied l f.kind f.tag .badValue [] s t ∧
        (∀ k, t.lk k = { afterFrame l f.kind s k with sent := (t.lk k).sent }) ∧
        t = { s with links := t.links, can := t.can })) ∧
  ∀ (i : Instr) (l : Link) (f : Frame) (s : State), i.wellFormed = true → requestFrame i = some (l, f) →
    f.known = true → (s.lk l).rxQueue = [] → s.blocked l = false → s.handling = none →
    (s.phase = .resetLow → exec i s = .next s) ∧ ((s.lk l).live = .off → exec i s = .next s) ∧
    (∀ b, s.phase = .loading b → (s.lk l).live = .act ∨ (s.lk l).live = .watch →
      ∃ t, exec i s = .next t ∧ Replied l f.kind f.tag .busy [] s t ∧ LinksQuiet s t ∧
        t = { s with links := t.links, can := t.can }) ∧
    (s.phase = .run → (s.lk l).live = .watch → f.kind ≠ 0x06 → f.kind ≠ 0x07 → f.kind ≠ 0x08 →
      ∃ t, exec i s = .next t ∧ Replied l f.kind f.tag .linkWatch [] s t ∧ LinksKept l f.kind s t ∧
        t = { s with links := t.links, can := t.can })

/-- R155 steps 6 and 7: CONFIGURE, SAVE, RESET_GROUP and SET_CHARGE from a link without config right, and VEHICLE
from link P or T, are refused NOT_PERMITTED. R49, R52, R59, R103, R107, R121, R128, R134, R146: so is a request that acts
in a zone outside the link's membership. REFUSED_PERMISSION is raised with the link as origin, the request's first four
bytes and the target it names, and no owner acts. The request is presented with its frame (log 2); the target of a
SCENE is none (log 18). -/
def Obligations.WithoutRightIsNotPermitted : Prop :=
  ∀ (i : Instr) (l : Link) (f : Frame) (target : Option Nat) (s : State), i.wellFormed = true →
    requestFrame i = some (l, f) → Ready l s →
    ((f.kind = 0x0A ∨ f.kind = 0x0C ∨ f.kind = 0x0D ∨ f.kind = 0x0F) ∧ (s.set.links.get l).configRight = false ∨
      f.kind = 0x09 ∧ l ≠ .c) ∧ target = none ∨ Unadmitted l s target i →
    ∃ t, exec i s = .next t ∧ Replied l f.kind f.tag .notPermitted [] s t ∧ LogTook .refusedPermission s t ∧
      FaultFormed t ∧
      (s.log.capture = none →
        ∃ c, t.log.capture = some c ∧ c.origin = .link l ∧ c.bytes = some [f.kind, f.tag, f.b2, f.b3] ∧
          c.target = target) ∧
      (∀ k, t.lk k =
        { afterFrame l f.kind s k with
          pending := (s.lk k).pending ||| Event.incident.bit, sent := (t.lk k).sent }) ∧
      t = { s with links := t.links, log := t.log, can := t.can }

/-- R162: the LINKS group reset. Each link takes its configured standing, event mask and echo set, its batch and
snapshot are emptied, its receive queue is kept, its timer restarts where it is not OFF; the undelivered replies of
link C are discarded and the speed becomes UNKNOWN, with a drive-away of the step where IGN is on and it was known; the
reply follows. That drive-away raises DRIVE_AWAY where the step cannot stow, by R136, the reset itself having changed no
incident (log 25). The sets are emptied before the speed becomes UNKNOWN (log 25), so that they are said to be empty
only where it was UNKNOWN before. -/
def Obligations.ResetLinksRestoresLinks : Prop :=
  ∀ (l : Link) (tag : Byte) (s : State), Ready l s → (s.set.links.get l).configRight = true →
    ∃ t, exec (.resetLinks l tag) s = .next t ∧ t.vehicle = { speed := none, age := 0 } ∧
      (∀ k, (t.lk k).live = (s.set.links.get k).standing.live ∧ (t.lk k).mask = (s.set.links.get k).eventMask ∧
        (t.lk k).echo = (s.set.links.get k).echo ∧ (t.lk k).batch = [] ∧ (t.lk k).snapshot = none ∧
        (t.lk k).rxQueue = (s.lk k).rxQueue ∧ (t.lk k).part = (s.lk k).part ∧
        (t.lk k).timer = if (s.set.links.get k).standing = .off then none else some 0) ∧
      (s.vehicle.speed = none → ∀ k, (t.lk k).pending = 0) ∧
      (s.vehicle.speed.isSome = true ∧ s.mu.ign = true → DroveAway s t) ∧
      (s.vehicle.speed = none ∨ s.mu.ign = false → t.mot = s.mot ∧ t.log = s.log ∧ t.row 21 = s.row 21) ∧
      MovingEvaluated s t ∧
      (∃ g, IsReply g 0x0C tag .ok [] ∧
        t.can.replies = (if l = .c then [{ id := some (canReplyId s.can.node), payload := g }] else []) ∧
        ∀ k, k ≠ .c →
          (t.lk k).sent = if k = l then (s.lk k).sent ++ [{ id := none, payload := g }] else (s.lk k).sent) ∧
      t = { s with
        vehicle := t.vehicle, tab := t.tab, light := t.light, mot := t.mot, links := t.links, can := t.can
        log := t.log }

/-! ### The sweep -/

/-- R4, R160: a sweep completion publishes its measurements, enters a VEHICLE event where IGN or ENGINE changed, and hands
changed conditions to the standing orders; then each of the nine blocks processes the sweep once. The blocks that the
command names act first, in the order in which it names them, the others after them in the default order. The order is
the model's choice (log 3), as the time that the sweep adds (log 10) and the end of the discarding of a hard report (R3,
log 29). -/
def Obligations.SweepRunsEachBlockOnce : Prop :=
  ∀ (m : Sweep) (order : List SweepBlock) (s : State),
    let before := fun (l : List SweepBlock) (a b : SweepBlock) => l.idxOf a < l.idxOf b
    let run := fun (t : State) (b : SweepBlock) =>
      match b with
      | .account => t.accountSweep
      | .charge => t.chargeSweep
      | .allocator => t.allocPass
      | .protection => t.protectionSweep
      | .climate => t.climateSweep
      | .water => t.waterSweep
      | .motionA => t.motionSweep .awning
      | .motionS => t.motionSweep .step
      | .lighting => t.lightingSweep
    let default : List SweepBlock :=
      [.account, .allocator, .charge, .protection, .climate, .water, .motionA, .motionS, .lighting]
    let p := s.publish m
    let changed := s.mu.ign ≠ m.ign ∨ s.mu.engine ≠ m.engine
    (∃ blocks : List SweepBlock, blocks.Nodup ∧ (∀ b, b ∈ blocks) ∧
      (∀ a ∈ order, ∀ b ∈ order, before blocks a b ↔ before order a b) ∧
      (∀ a ∈ order, ∀ b, b ∉ order → before blocks a b) ∧
      (∀ a b, a ∉ order → b ∉ order → (before blocks a b ↔ before default a b)) ∧
      let t := blocks.foldl run p
      exec (.sweepCompletion m order) s = .next { t with
        test := { t.test with discard := match t.test.seq with
          | .running slot _ => decide (slot = 12)
          | .idle => false } }) ∧
      (m.wellFormed = true → p.mu = m) ∧ p.prev = s.mu ∧
      p.chg = { s.chg with
        iIn := if (s.chg.shoreEn || s.chg.solarEn || s.chg.altEn) = true then p.mu.chargeIn.toNat else 0 } ∧
      (changed → s.phase = .run → OnEveryLink .vehicle p) ∧
      (¬changed → ∀ k, (p.lk k).pending = (s.lk k).pending) ∧
      p.vehicle.speed = s.vehicle.speed ∧
      (OrdersFormed s → OrdersFormed p ∧ (∀ r, (p.row r).wanted = (s.row r).wanted)) ∧
      p = { s with
        mu := p.mu, prev := p.prev, chg := p.chg, inForce := p.inForce, links := p.links, vehicle := p.vehicle
        tab := p.tab, light := p.light }

/-- R5, R6, R9, R10: the charge count of a sweep, whatever the order of the blocks. I_tail is C_nom × 2, and the
drift limit ten times C_nom in mA·s or the saturation of the throughput. R36, R112, R124: the sweep meets the rated
currents and the travel times as configured, and in RUN the classes and the grey inhibit too. The order is an operand
(log 3). -/
def Obligations.SweepCountsCharge : Prop :=
  ∀ (m : Sweep) (order : List SweepBlock) (s : State), m.wellFormed = true → s.acct.loaded = true →
    let a := s.acct
    let full := a.copy.cNom * 3600000
    let inc : Int := if 0 < m.shunt then m.shunt * a.copy.eta / 256 else m.shunt
    let used := if inc < 0 then min 4294967295 (a.throughput + (-inc).toNat) else a.throughput
    let holds : Prop := a.copy.vFull ≤ m.bankV ∧ 0 ≤ m.shunt ∧ m.shunt < 2 * a.copy.cNom
    ∃ t, exec (.sweepCompletion m order) s = .next t ∧
      (holds ∧ a.fullCounter = 1199 →
        t.acct.q = full ∧ t.acct.throughput = 0 ∧ t.acct.fullCounter = 1200 ∧ t.acct.sync = .synced) ∧
      (¬(holds ∧ a.fullCounter = 1199) →
        (t.acct.q : Int) = max 0 (min (full : Int) (a.q + inc)) ∧ t.acct.throughput = used ∧
        t.acct.sync =
          if (a.sync = .synced ∨ a.sync = .manual) ∧ (10 * full < used ∨ used = 4294967295) then .drifting
          else a.sync) ∧
      (holds → t.acct.fullCounter = min 1200 (a.fullCounter + 1)) ∧ (¬holds → t.acct.fullCounter = 0) ∧
      (s.phase ≠ .resetLow → t.acct.sync ≠ a.sync → ∀ k, (t.lk k).pending.getLsbD Event.energy.no = true) ∧
      t.acct.copy = a.copy ∧ t.acct.loaded = true ∧ t.acct.hardPath = a.hardPath ∧
      t.vehicle.speed = s.vehicle.speed ∧
      t.inForce.rated = s.set.recs.map (·.rated) ∧ t.inForce.tFull = s.set.motion.tFull ∧
      (s.phase = .run →
        t.inForce.cls = s.set.recs.map (·.cls) ∧ t.inForce.greyInhibit = s.set.water.greyInhibit) ∧
      (s.phase ≠ .run → t.inForce.cls = s.inForce.cls ∧ t.inForce.greyInhibit = s.inForce.greyInhibit) ∧
      t = { s with
        mu := m, prev := s.mu, inForce := t.inForce, acct := t.acct, chg := t.chg, tab := t.tab, test := t.test, reg := t.reg
        alloc := t.alloc, clim := t.clim, water := t.water, mot := t.mot, light := t.light, links := t.links
        vehicle := t.vehicle, log := t.log }

/-- R7, R8, R12, R18: after a sweep C_eff is as the temperature gives it, SoC_pm is the charge against it, the effective
reserve follows the sync state, and the discharge ceiling follows the temperature and is 0 in CUT. An accepted SET_CHARGE
forms the SoC_pm and the effective reserve again. -/
def Obligations.SweepGaugesBank : Prop :=
  (∀ (m : Sweep) (order : List SweepBlock) (s : State), m.wellFormed = true → s.acct.loaded = true →
    ∃ t, exec (.sweepCompletion m order) s = .next t ∧
      t.acct.cEff =
        s.acct.copy.cNom * 3600000 *
          (if 40 ≤ m.tBank then 256 else if 20 ≤ m.tBank then 246 else if 0 ≤ m.tBank then 230
          else if -20 ≤ m.tBank then 205 else if -40 ≤ m.tBank then 179 else 154) / 256 ∧
      t.acct.socPm = min 1000 (t.acct.q * 1000 / t.acct.cEff) ∧
      t.acct.effReserve =
        (if t.acct.sync = .synced ∨ t.acct.sync = .manual then s.acct.copy.reservePm
        else min 700 (s.acct.copy.reservePm + 100)) ∧
      t.acct.iCeiling =
        if t.acct.bank = .cut then 0
        else s.acct.copy.iMax *
          (if 0 ≤ m.tBank then 256 else if -20 ≤ m.tBank then 218 else if -40 ≤ m.tBank then 179 else 128) / 256) ∧
  ∀ (l : Link) (tag : Byte) (pm : BitVec 16) (s : State), Ready l s → (s.set.links.get l).configRight = true →
    ∃ t, exec (.setCharge l tag pm) s = .next t ∧ t.acct.sync = .manual ∧ t.acct.cEff = s.acct.cEff ∧
      t.acct.socPm = min 1000 (t.acct.q * 1000 / s.acct.cEff) ∧ t.acct.effReserve = s.acct.copy.reservePm

/-- R13 to R17: the protection of the bank at a sweep: entry to CUT by the 50th count or by the hard path, recovery
by the 100th count, else the choice between NORMAL and RESERVE. The hard path reports the lowest bank voltage of the
sweep below V_hard (log 12). I_in is fixed from the enables as they stood before the sweep (R30); a hard report is
discarded at a sweep that overlaps slot 12 of the self-test (R3), which is marked as log 29 says. -/
def Obligations.SweepProtectsBank : Prop :=
  ∀ (m : Sweep) (order : List SweepBlock) (s : State), m.wellFormed = true → s.acct.loaded = true →
    let a := s.acct
    let vCut := if a.copy.chemistry = .lead then 10800 else 11600
    let vHard := if a.copy.chemistry = .lead then 10200 else 10800
    let charging : Prop :=
      (s.chg.shoreEn = true ∨ s.chg.solarEn = true ∨ s.chg.altEn = true) ∧ 0 < m.chargeIn
    let hard : Prop := a.hardPath = .armed ∧ m.minV < vHard ∧ s.test.discard = false
    ∃ t, exec (.sweepCompletion m order) s = .next t ∧
      let chosen := if t.acct.socPm ≤ t.acct.effReserve then BankState.reserve else BankState.normal
      (a.bank ≠ .cut → (m.bankV < vCut ∧ 49 ≤ a.cutCounter) ∨ hard →
        t.acct.bank = .cut ∧ t.acct.cutCounter = 0 ∧ t.acct.recoveryCounter = 0 ∧
          tget t.log.status Incident.bankCut.no = true ∧ t.clim.drain = .opened ∧
          ∀ d, (t.mot.get d).state.dir = none) ∧
      (a.bank ≠ .cut → ¬((m.bankV < vCut ∧ 49 ≤ a.cutCounter) ∨ hard) →
        t.acct.bank = chosen ∧ t.acct.recoveryCounter = a.recoveryCounter ∧
          t.acct.cutCounter = if m.bankV < vCut then a.cutCounter + 1 else 0) ∧
      (a.bank = .cut → vCut + 500 < m.bankV ∧ charging → a.recoveryCounter < 99 →
        t.acct.bank = .cut ∧ t.acct.recoveryCounter = a.recoveryCounter + 1 ∧ t.acct.cutCounter = a.cutCounter) ∧
      (a.bank = .cut → vCut + 500 < m.bankV ∧ charging → 99 ≤ a.recoveryCounter →
        t.acct.bank = chosen ∧ t.acct.recoveryCounter = 0 ∧ t.acct.cutCounter = a.cutCounter) ∧
      (a.bank = .cut → ¬(vCut + 500 < m.bankV ∧ charging) →
        t.acct.bank = .cut ∧ t.acct.recoveryCounter = 0 ∧ t.acct.cutCounter = a.cutCounter) ∧
      (s.phase ≠ .resetLow → t.acct.bank ≠ a.bank → ∀ k, (t.lk k).pending.getLsbD Event.energy.no = true)

/-- R22 to R24, R26 to R28, R30: the charge permission, the alternator delay and the enables of a sweep in RUN. With
neither hot nor cold the permission is the absorb latch's, which depends on the order of the blocks (R25). ALT_EN needs
ENGINE on, also with alt_delay 0 (log 32). R25, R31, R32: charge control's own part of a sweep ends the absorb latch
below hold_release and forms the warmer's drop, request and wanted level. -/
def Obligations.SweepChoosesPermission : Prop :=
  (∀ (m : Sweep) (order : List SweepBlock) (s : State), m.wellFormed = true → s.phase = .run →
    let was := s.chg.permission
    let hot : Prop := if was = .hotHold then 100 ≤ m.tBank else 110 < m.tBank
    let cold : Prop := s.acct.copy.chemistry = .lithium ∧ if was = .coldHold then m.tBank < 4 else m.tBank < 0
    ∃ t, exec (.sweepCompletion m order) s = .next t ∧
      (hot → t.chg.permission = .hotHold) ∧ (¬hot → cold → t.chg.permission = .coldHold) ∧
      (¬hot → ¬cold → t.chg.permission = .allowed ∨ t.chg.permission = .absorbHold) ∧
      (¬hot → ¬cold → s.acct.copy.chemistry = .lead → s.chg.absorb = false → t.chg.permission = .allowed) ∧
      (¬hot → ¬cold → s.chg.absorb = true → s.set.charge.holdRelease ≤ min s.acct.socPm t.acct.socPm →
        t.chg.permission = .absorbHold) ∧
      (hot → was ≠ .hotHold → tget t.log.status Incident.bankHot.no = true) ∧
      (¬hot → cold → was ≠ .coldHold → tget t.log.status Incident.coldBlock.no = true) ∧
      t.chg.altTimer = (if m.engine then min 600 (s.chg.altTimer + 1) else 0) ∧
      (t.chg.shoreEn = true ↔ t.chg.permission = .allowed ∧ m.shore = true) ∧
      (t.chg.solarEn = true ↔ t.chg.permission = .allowed ∧ s.set.charge.solarEnable = true) ∧
      (t.chg.altEn = true ↔
        t.chg.permission = .allowed ∧ s.set.charge.altEnable = true ∧ m.engine = true ∧
          s.set.charge.altDelay * 10 ≤ t.chg.altTimer) ∧
      t.chg.iIn =
        (if s.chg.shoreEn = true ∨ s.chg.solarEn = true ∨ s.chg.altEn = true then m.chargeIn.toNat else 0) ∧
      ((t.chg.permission ≠ was ∨ t.chg.shoreEn ≠ s.chg.shoreEn ∨ t.chg.solarEn ≠ s.chg.solarEn ∨
        t.chg.altEn ≠ s.chg.altEn) → ∀ k, (t.lk k).pending.getLsbD Event.energy.no = true)) ∧
  ∀ s : State, s.phase = .run →
    let t := s.chargeSweep
    t.chg.absorb = (s.chg.absorb && decide (s.set.charge.holdRelease ≤ s.acct.socPm)) ∧
      (t.chg.warmerDrop = true ↔
        s.chg.warmerDrop = true ∧ ((s.row 10).prot = .tripped ∨ (s.row 10).prot = .retryWait)) ∧
      (t.chg.warmerReq = true ↔
        t.chg.permission = .coldHold ∧ (s.mu.shore = true ∨ s.mu.engine = true) ∧ t.chg.warmerDrop = false) ∧
      (t.row 10).wanted = (if t.chg.warmerReq = true then 1000 else 0) ∧ (t.row 10).wantedBy = .function ∧
      (∀ k, k ≠ 10 → t.row k = s.row k) ∧ t.chg.iIn = s.chg.iIn ∧ LinksQuiet s t ∧
      t = { s with chg := t.chg, tab := t.tab, links := t.links, log := t.log }

/-- R114 to R117: the tanks at a sweep in RUN. The reported level is the third of the five in ascending order; the band
moves past a boundary only by 20. A first sweep that is itself held enters nothing, and the first sweep not held after it
fills the window (the model's choice, log 34). Where the standing orders are formed before the water controller acts,
they are formed after it, a change of GREY_FULL being handed to them. -/
def Obligations.SweepReadsTanks : Prop :=
  ∀ (m : Sweep) (order : List SweepBlock) (s : State), m.wellFormed = true → s.phase = .run →
    let w := s.water
    let e := s.set.water.freshEmpty
    let f := s.set.water.freshFull
    let x := if f = e then 0 else (max 0 (min 1000 ((((m.sender : Int) - e) * 1000).tdiv ((f : Int) - e)))).toNat
    let held : Prop := (∃ v, s.vehicle.speed = some v ∧ 3 ≤ v) ∨ s.vehicle.speed = none ∧ m.ign = true
    let fresh : Prop := w.held = true ∨ w.refill = true ∨ w.window = []
    let grey := if m.g100 then 1000 else if m.g75 then 750 else if m.g50 then 500 else if m.g25 then 250 else 0
    ∃ t, exec (.sweepCompletion m order) s = .next t ∧
      t.water.ratio = m.sender ∧ t.water.rawLevel = x ∧ t.water.started = true ∧
      (held → t.water.window = w.window ∧ t.water.level = w.level ∧ t.water.held = true ∧ t.water.refill = w.refill) ∧
      (¬held → fresh →
        t.water.window = [x, x, x, x, x] ∧ t.water.level = x ∧ t.water.held = false ∧ t.water.refill = false) ∧
      (¬held → ¬fresh →
        t.water.window = w.window.drop 1 ++ [x] ∧ t.water.level = (t.water.window.mergeSort).getD 2 0 ∧
          t.water.held = false) ∧
      (w.started = false → ∀ y : Band, y ≠ .empty → (y.no ≤ t.water.band.no ↔ y.lower ≤ t.water.level)) ∧
      (w.started = true → held → t.water.band = w.band) ∧
      (w.started = true → ¬held → ∀ y : Band, y ≠ .empty →
        (w.band.no < y.no → (y.no ≤ t.water.band.no ↔ y.lower + 20 ≤ t.water.level)) ∧
          (y.no ≤ w.band.no → (t.water.band.no < y.no ↔ t.water.level + 20 < y.lower))) ∧
      t.water.greyLevel = grey ∧ t.water.greyFull = m.g100 ∧
      (t.water.band ≠ w.band ∨ grey ≠ w.greyLevel → ∀ k, (t.lk k).pending.getLsbD Event.water.no = true) ∧
      (OrdersFormed s → s.waterSweep.water.greyFull = s.mu.g100 ∧ OrdersFormed s.waterSweep)

/-- R81, R82, R86, R90: after every pass, the granted records of classes 0, 1 and 2 together carry no more than the pool, the
GRANTED lights of a class carrying what its dim factor leaves of their sum; with the bank CUT the pool is 0. A record 1
handed over to class 3 (R86) has left its class. -/
def Obligations.PoolBoundsGrantedLoads : Prop :=
  ∀ s : State, s.phase = .run →
    let t := s.allocPass
    let soc := s.acct.socPm
    let reserve := s.acct.effReserve
    let taper := if reserve + 150 ≤ soc then 1000 else if soc ≤ reserve then 0 else (soc - reserve) * 1000 / 150
    let on := fun (c : LoadClass) =>
      (s.members c.no).filter fun r => (t.row r).alloc == .granted && !(r == 1 && t.effClass 1 == 3)
    let load := fun (c : LoadClass) =>
      s.estSum ((on c).filter fun r => !(isDimmed r)) +
        s.estSum ((on c).filter isDimmed) * (t.alloc.cls.get c).dim / 1000
    t.alloc.pool =
        (if s.acct.bank = .cut then 0 else (s.acct.iCeiling - s.demand3) * taper / 1000 + s.chg.iIn) ∧
      load .c2 + load .c1 + load .c0 ≤ t.alloc.pool

/-- R43, R80 to R84, R89, R91: a pass in RUN forms the demands, the headroom, the taper and the pool, gives each class its
demand where all fit, and else shares what the satisfied classes leave by weight, the highest-numbered of the others
taking the remainder. Records that cannot be served get nothing, those of class 3 what they are ordered, and with the
bank CUT all are SHED but lights, which are dark. A change of an allocation state or a dim factor is a GRANT event. -/
def Obligations.PassSharesPoolAmongClasses : Prop :=
  ∀ s : State, s.phase = .run → (∀ c, 1 ≤ s.set.alloc.weights.get c) →
    let t := s.allocPass
    let demand := fun (c : LoadClass) => drawOf s (inClass s c.no)
    let d3 := drawOf s (inClass s 3)
    let pool := t.alloc.pool
    let total := demand .c2 + demand .c1 + demand .c0
    let grant := fun (c : LoadClass) => (t.alloc.cls.get c).grant
    let weight := s.set.alloc.weights.get
    let cut := s.acct.bank = .cut
    let changed := (∃ r, (t.row r).alloc ≠ (s.row r).alloc) ∨ ∃ c, (t.alloc.cls.get c).dim ≠ (s.alloc.cls.get c).dim
    (t.alloc.d3 = d3 ∧ t.alloc.hBank = s.acct.iCeiling - d3 ∧
      t.alloc.taper =
        (if s.acct.effReserve + 150 ≤ s.acct.socPm then 1000
        else (s.acct.socPm - s.acct.effReserve) * 1000 / 150) ∧
      pool = (if cut then 0 else t.alloc.hBank * t.alloc.taper / 1000 + s.chg.iIn)) ∧
    (∀ c, (t.alloc.cls.get c).demand = demand c) ∧ (total ≤ pool → ∀ c, grant c = demand c) ∧
    (pool < total → ∃ u : List LoadClass, u ≠ [] ∧ u.Sublist [.c2, .c1, .c0] ∧
      (let served := ([.c2, .c1, .c0] : List LoadClass).filter fun c => !(u.contains c)
      let left := pool - (served.map demand).sum
      let share := fun (c : LoadClass) => left * weight c / (u.map weight).sum
      (served.map demand).sum ≤ pool ∧ (∀ c, c ∉ u → grant c = demand c ∧ demand c ≤ share c) ∧
        (∀ c, c ∈ u → share c < demand c) ∧ (∀ c, c ∈ u.drop 1 → grant c = share c) ∧
        ∀ c, u.head? = some c → grant c = share c + (left - (u.map share).sum))) ∧
    (∀ r, Settled s r →
      (t.row r).join = false ∧ (t.row r).ordered = (s.row r).ordered ∧ (t.row r).prot = (s.row r).prot ∧
        (servable s r = false → t.row r = { s.row r with granted := 0, join := false }) ∧
        (servable s r = true → (s.row r).ordered = 0 → (t.row r).alloc = .granted ∧ (t.row r).granted = 0) ∧
        (inClass s 3 r = true → ¬cut → (t.row r).alloc = .granted ∧ (t.row r).granted = (s.row r).ordered) ∧
        (inClass s 3 r = true → cut → ShedIn r t) ∧
        ∀ c : LoadClass, inClass s c.no r = true → cut →
          (isDimmed r = false → ShedIn r t) ∧
            (isDimmed r = true → (s.row r).alloc = .granted → (s.row r).join = false →
              (t.row r).alloc = .granted ∧ (t.row r).granted = 0)) ∧
    (changed → OnEveryLink .grant t) ∧
    (¬changed → ∀ k, (t.lk k).pending.getLsbD Event.grant.no = (s.lk k).pending.getLsbD Event.grant.no) ∧
    (∀ c, t.light.dims.get c = (t.alloc.cls.get c).dim) ∧ t.inForce = { s.inForce with cls := s.set.recs.map (·.cls) } ∧
    (∀ d, t.mot.get d = { s.mot.get d with rest := (t.mot.get d).rest, lastDir := (t.mot.get d).lastDir }) ∧
    t.clim.heldDrive = none ∧ LinksQuiet s t ∧
    t = { s with
      inForce := t.inForce, tab := t.tab, test := t.test, alloc := t.alloc, clim := t.clim, mot := t.mot
      light := t.light, links := t.links, log := t.log }

/-- R85 to R89, R97, R98: how a pass fits a class to its grant. A class whose demand is granted keeps and takes all it
has. Else, without joiners, lights are dimmed by steps, then switched records are SHED from the highest number down,
then lights go dark; a heater in START or RUN is handed over and cools down. A joiner enters where the grant holds it.
The candidate for restoration is the next dimming step or the lowest record SHED; it is counted while it would fit and
comes back at restore_delay. Record 1 granted to a heater that waits for its budget starts it. -/
def Obligations.PassFitsClassToGrant : Prop :=
  ∀ (c : LoadClass) (s : State), s.phase = .run → s.acct.bank ≠ .cut → (∀ c, 1 ≤ s.set.alloc.weights.get c) →
    let t := s.allocPass
    let old := s.alloc.cls.get c
    let new := t.alloc.cls.get c
    let g := new.grant
    let d := new.demand
    let delay := s.set.alloc.restoreDelay
    let member := inClass s c.no
    let joins := fun (r : RecNo) => member r && (s.row r).join
    let stays := fun (r : RecNo) => member r && (s.row r).alloc == .granted && !(s.row r).join
    let waits := fun (r : RecNo) => member r && (s.row r).alloc == .shed && !(s.row r).join
    let switched := drawOf s fun r => stays r && !(isDimmed r)
    let lights := drawOf s fun r => stays r && isDimmed r
    let load := fun (dim : Nat) => switched + lights * dim / 1000
    let busy := s.clim.heater = .start ∨ s.clim.heater = .run
    old.dim ∈ [0, 250, 500, 750, 1000] →
    (d ≤ g → old.counter + 1 < delay → new.dim = old.dim ∧
      (∀ r, stays r = true ∨ joins r = true → Settled s r → GrantedAt old.dim r s t) ∧
      ∀ r, waits r = true → Settled s r → ShedIn r t) ∧
    ((∀ r, joins r = false) → g < load old.dim → old.counter + 1 < delay →
      (∀ dim ∈ [250, 500, 750], dim < old.dim → load dim ≤ g →
        (∀ more ∈ [250, 500, 750], dim < more → more < old.dim → g < load more) →
          new.dim = dim ∧ ∀ r, stays r = true → Settled s r → GrantedAt dim r s t) ∧
      ((∀ dim ∈ [250, 500, 750], dim < old.dim → g < load dim) →
        let low := if lights = 0 then old.dim else min old.dim 250
        let upTo := fun (r : RecNo) =>
          drawOf s (fun q => stays q && !(isDimmed q) && decide (q.val ≤ r.val)) + lights * low / 1000
        new.dim = (if g < lights * low / 1000 then 0 else low) ∧
          ∀ r, stays r = true → Settled s r →
            (isDimmed r = true ∨ upTo r ≤ g → GrantedAt new.dim r s t) ∧
            (isDimmed r = false → g < upTo r →
              (r = 1 → busy → (t.row 1).alloc = .granted ∧ t.clim.heater = .coolDown ∧ t.clim.coolTimer = 1800) ∧
                (r ≠ 1 ∨ ¬busy → ShedIn r t)))) ∧
    (∀ j, joins j = true → Settled s j → (∀ r, joins r = true → r = j) → load old.dim ≤ g → old.counter + 1 < delay →
      let next :=
        if isDimmed j then switched + (lights + expected s j) * old.dim / 1000
        else switched + expected s j + lights * old.dim / 1000
      new.dim = old.dim ∧ (next ≤ g → GrantedAt old.dim j s t) ∧ (g < next → j ≠ 1 ∨ ¬busy → ShedIn j t)) ∧
    ((∀ r, joins r = false) → load old.dim ≤ g →
      let limit := if d ≤ g then g else g * 950 / 1000
      let counts := fun (cand : Candidate) (next : Nat) (back : Prop) =>
        let base := if cand = old.cand then old.counter else 0
        new.cand = cand ∧ (limit < next → new.counter = 0 ∧ new.dim = old.dim) ∧
          (next ≤ limit → base + 1 < delay → new.counter = base + 1 ∧ new.dim = old.dim) ∧
          (next ≤ limit → delay ≤ base + 1 → new.counter = 0 ∧ back)
      (old.dim < 1000 → counts (.dim (old.dim + 250)) (load (old.dim + 250))
        (new.dim = old.dim + 250 ∧ ∀ r, stays r = true → Settled s r → GrantedAt (old.dim + 250) r s t)) ∧
      (∀ q, old.dim = 1000 → waits q = true → Settled s q → (∀ r, waits r = true → q.val ≤ r.val) →
        counts (.record q) (load 1000 + expected s q) (new.dim = 1000 ∧ GrantedAt 1000 q s t)) ∧
      (old.dim = 1000 → (∀ r, waits r = false) → new.cand = .none ∧ new.counter = 0 ∧ new.dim = 1000)) ∧
    (s.clim.heater = .waitBudget → member 1 = true → Settled s 1 → joins 1 = true ∨ waits 1 = true →
      (GrantedAt 1000 1 s t → t.clim.heater = .start ∧ t.clim.startTimer = 1800) ∧
        (ShedIn 1 t → t.clim.heater = .waitBudget))

/-- R143, R147: the lighting controller at one sweep in RUN: a light that may be lit moves toward its granted level by at
most its fade rate, any other is off; the door is noted, and a door seen opening places the courtesy demands. -/
def Obligations.LightsFadeAndDoorIsNoted : Prop :=
  ∀ s : State, s.phase = .run → CutSafe s →
    let t := s.lightingSweep
    let opens := s.light.door = some false ∧ s.mu.door = true
    (∀ n, tget t.light.out n =
      if s.lit (lightRec n) then
        let out := tget s.light.out n
        let goal := (s.row (lightRec n)).granted
        let fade := tget s.set.light.fade n
        if out < goal then min goal (out + fade) else max goal (out - fade)
      else 0) ∧
    t.light.door = some s.mu.door ∧
    (opens → s.reg.length ≤ 24 → ∀ n : Fin 8, s.set.light.courtesySet.getLsbD n.val = true → ∃ e ∈ t.reg,
      e = { origin := .door, target := 12 + n.val, level := s.set.light.courtesyLevel, prec := 1
            hold := .timed s.set.light.courtesyTime }) ∧
    (¬opens → t = { s with light := t.light }) ∧
    t = { s with
      reg := t.reg, clim := t.clim, water := t.water, tab := t.tab, light := t.light, links := t.links }

/-! ### Power, reset, settings -/

/-- R20, R34, R55, R110, R141, R162, R164, R170: power-on. The commands still to come and the record of what was sent are
the model's own and stay; the values the manual does not give are those of log 4. R3, R15, R21, R55, R110, R170: RST_N
driven low keeps the account, the self-test results, the discarding of a hard report of the sweep that overlaps slot 12,
and the drain with its drive; every other drive goes off and every other block takes its reset values. Released,
LOADING begins with RESET_SEEN. The start-up clock (R165) counts but while RST_N is low. What R170 does not name is as
log 22 reads it. That the live settings, those in force and the node are the default ones from power-on, and
while RST_N is low, until the load gives them is the model's choice (log 5). -/
def Obligations.PowerOnAndRstNResetBlocks : Prop :=
  (∀ s : State,
    ∃ t, exec .powerOn s = .next t ∧ t.phase = .loading false ∧
      (t.acct.q = 0 ∧ t.acct.sync = .unsynced ∧ t.acct.throughput = 0 ∧ t.acct.bank = .normal ∧
        t.acct.hardPath = .armed ∧ t.acct.cEff = 360000000 ∧ t.acct.effReserve = 300 ∧ t.acct.iCeiling = 0) ∧
      (t.chg.shoreEn = false ∧ t.chg.solarEn = false ∧ t.chg.altEn = false ∧ t.chg.absorb = false) ∧
      (∀ r, (t.row r).wanted = 0 ∧ (t.row r).granted = 0 ∧ (t.row r).prot = .normal ∧ t.driveOn r = false) ∧
      t.test.results = Vector.replicate 13 .none ∧ t.reg = [] ∧
      (t.clim.heater = .off ∧ t.clim.drain = .opened ∧ t.clim.openCause = .powerOn) ∧ t.water.pump = .off ∧
      (∀ d, (t.mot.get d).state = .stowed ∧ (t.mot.get d).lastDir = none ∧ (t.mot.get d).rest = 5) ∧
      t.vehicle.speed = none ∧ t.log = Log.powerOn ∧
      (∀ k, t.lk k = { State.reset.lk k with sent := (s.lk k).sent } ∧ (t.lk k).live = .act ∧ (t.lk k).pending = 0 ∧
        (t.lk k).timer = none) ∧
      t = { State.reset with pending := s.pending, links := t.links }) ∧
  ∀ s : State,
    (s.phase ≠ .resetLow →
      ∃ t, exec .rstNAssert s = .next t ∧ t.phase = .resetLow ∧ t.pending = s.pending ∧ t.acct = s.acct ∧
        t.log = { s.log with clock := 0 } ∧ t.test = { seq := .idle, results := s.test.results, discard := s.test.discard } ∧
        (t.clim.drain = s.clim.drain ∧ t.clim.openCause = s.clim.openCause ∧ t.clim.heater = .off) ∧
        t.driveOn 2 = s.driveOn 2 ∧ (∀ r, r ≠ 2 → t.driveOn r = false) ∧
        (∀ r, (t.row r).wanted = 0 ∧ (t.row r).granted = 0 ∧ (t.row r).prot =
          if r.val < 12 ∧ s.test.results.toList.getD r.val .none = .fail then .unprotected else .normal) ∧
        t.set = Settings.default ∧ t.inForce = Settings.default.inForce ∧ t.chg = Charge.reset ∧ t.reg = [] ∧ t.alloc = Alloc.reset ∧ t.water = Water.reset ∧ t.light = Light.reset ∧
        (∀ d, t.mot.get d = Motion.reset 0) ∧ t.wind.lock = false ∧ t.vehicle.speed = none ∧ t.can.replies = [] ∧
        (∀ k, (t.lk k).pending = 0 ∧ (t.lk k).timer = none ∧ (t.lk k).rxQueue = [] ∧ (t.lk k).sent = (s.lk k).sent)) ∧
    (s.phase = .resetLow →
      (∃ t, exec .rstNRelease s = .next t ∧ t.phase = .loading true ∧
        LogTook .resetSeen { s with log := { s.log with clock := 0 } } t ∧
        (∀ k, t.lk k = { s.lk k with pending := (s.lk k).pending ||| Event.incident.bit }) ∧
        t = { s with phase := t.phase, links := t.links, log := t.log }) ∧
      exec .rstNAssert s = .next s ∧ exec .startUpClockTick s = .next s) ∧
    (s.phase ≠ .resetLow →
      exec .rstNRelease s = .next s ∧
        exec .startUpClockTick s =
          .next { s with log := { s.log with clock := min 4294967295 (s.log.clock + 1) } })

/-- R20, R21, R133, R168, R170: the settings load. An accepted image gives the live settings, a rejected one and an
EEPROM that does not answer give the default settings and SETTINGS_LOAD; then every block performs its entry to RUN,
the records and modes take the resolved values, and a step that is not found stowed places its light's demand (R138).
Which images are accepted, and the order of the entries to RUN, is as log 15 and log 31 read the rules. -/
def Obligations.SettingsLoadEntersRun : Prop :=
  ∀ (image : List Byte) (b : Bool) (s : State), s.phase = .loading b →
    let entered := fun (img : Option Settings) (t : State) =>
      let cfg := img.getD Settings.default
      t.phase = .run ∧
      (t.set =
        if s.acct.loaded = true ∧ cfg.acct.chemistry ≠ s.acct.copy.chemistry then
          { cfg with acct :=
            { cfg.acct with
              eta := if cfg.acct.chemistry = .lead then 230 else 253
              vFull := if cfg.acct.chemistry = .lead then 14000 else 13900 } }
        else cfg) ∧
      t.store = { s.store with image := if img.isSome then .valid else .defaults, modified := false } ∧
      (img = none → LogTook .settingsLoad s t) ∧
      (img ≠ none → t.log = { s.log.clearKind Incident.settingsLoad.no with faultN := t.log.faultN }) ∧ FaultFormed t ∧
      (s.acct.loaded = true → TookSettings t.set.acct s.acct t.acct) ∧
      (s.acct.loaded = false →
        t.acct = { s.acct with
          loaded := true, copy := t.set.acct, q := t.set.acct.cNom * 1800000, cEff := t.set.acct.cNom * 3600000
          effReserve := min 700 (t.set.acct.reservePm + 100) }) ∧
      (∀ k, (t.lk k).live = (t.set.links.get k).standing.live ∧ (t.lk k).mask = (t.set.links.get k).eventMask ∧
        (t.lk k).echo = (t.set.links.get k).echo ∧
        ((t.set.links.get k).standing ≠ .off → (t.lk k).timer = some 0)) ∧
      (∀ d, Recomputed d s t) ∧
      (∀ r : RecNo, isRegisterRec r.val = true →
        (t.row r).wanted = storeLevel r (resolveIn t.set t.reg r.val).1 ∧
          (t.row r).wantedBy = (resolveIn t.set t.reg r.val).2) ∧
      (s.mot.step.state = .stowed → t.mot.step.state = .stowed ∨ t.mot.step.state = .latched → t.reg = s.reg) ∧
      (s.mot.step.state = .stowed → t.mot.step.state ≠ .stowed → t.mot.step.state ≠ .latched → s.reg.length < 32 →
        ∃ e ∈ t.reg, e =
          { origin := .step, target := 12 + t.set.light.stepLight.val, level := 1000, prec := 2, hold := .persist }) ∧
      t.clim.mode = heatModeOf (resolveIn t.set s.reg 22).1 ∧ t.clim.setpoint = (resolveIn t.set s.reg 23).1 ∧
      t.water.mode = pumpModeOf (resolveIn t.set s.reg 24).1 ∧ t.water.drain = s.clim.drain ∧
      t.clim.drain = s.clim.drain ∧ (t.row 2).wanted = (if s.clim.drain = .closed then 1000 else 0) ∧
      t = { s with
        phase := .run, acct := t.acct, chg := { s.chg with absorb := t.chg.absorb }, set := t.set
        inForce := t.set.inForce, tab := t.tab
        reg := t.reg, clim := t.clim, water := t.water, mot := t.mot, light := t.light, links := t.links
        can := { s.can with node := t.set.node }, log := t.log, store := t.store }
    (∃ t, exec (.settingsLoadCompletion image) s = .next t ∧ entered (parseImage image) t) ∧
      ∃ t, exec .settingsLoadTimeout s = .next t ∧ entered none t

/-- R169: SAVE copies the live settings for the image and answers ACCEPTED; while a save runs, a second SAVE is
refused BUSY. The save succeeds when the image read back is the one written; any other read-back leaves the image
state DEFAULTS and raises SETTINGS_LOAD. The read-back is an operand (log 15). -/
def Obligations.SaveWritesImage : Prop :=
  (∀ (l : Link) (tag : Byte) (s : State), Ready l s → (s.set.links.get l).configRight = true →
    ∃ t, exec (.save l tag) s = .next t ∧
      (s.store.saving = none → t.store = { s.store with saving := some s.set } ∧ Replied l 0x0D tag .accepted [] s t) ∧
      (s.store.saving ≠ none → t.store = s.store ∧ Replied l 0x0D tag .busy [] s t) ∧
      (∀ k, t.lk k = { afterFrame l 0x0D s k with sent := (t.lk k).sent }) ∧
      t = { s with store := t.store, links := t.links, can := t.can }) ∧
  ∀ (readBack : Option (List Byte)) (cfg : Settings) (s : State), s.phase = .run → s.store.saving = some cfg →
    ∃ t, exec (.saveCompletion readBack) s = .next t ∧
      (readBack = some (imageOf cfg) →
        t.store = { image := .valid, modified := false, saving := none } ∧
          t.log = { s.log.clearKind Incident.settingsLoad.no with faultN := t.log.faultN } ∧
          ∀ k, (t.lk k).pending = (s.lk k).pending ||| Event.energy.bit) ∧
      (readBack ≠ some (imageOf cfg) →
        t.store = { image := .defaults, modified := s.store.modified, saving := none } ∧ LogTook .settingsLoad s t ∧
          ∀ k, (t.lk k).pending = (s.lk k).pending ||| Event.incident.bit ||| Event.energy.bit) ∧
      FaultFormed t ∧ LinksQuiet s t ∧ t = { s with links := t.links, log := t.log, store := t.store }

/-! ### Energy account and charge control -/

/-- R14, R16, R40, R41, R104, R106, R134: the 50th count of the cut counter. The bank enters CUT: every drive goes off,
the heater ends its burn or its afterrun, the drain opens and the motors stop. R13, R17, R18, R30: the 100th count of the
recovery counter. The bank leaves CUT for RESERVE or NORMAL by the SoC_pm it holds, the ceiling is formed again, an
ENERGY event is raised, and no incident is raised or cleared but a SELFTEST_ABORT that a returning drive may bring. The
rows are the last counts, with the other terms of their rules (log 1); the heater rests in OFF (log 20). -/
def Obligations.BankEntersAndLeavesCut : Prop :=
  (∀ s : State, s.phase = .run → s.acct.loaded = true → s.acct.bank ≠ .cut → 49 ≤ s.acct.cutCounter →
    s.mu.bankV < (if s.acct.copy.chemistry = .lead then 10800 else 11600) → CutSafe s →
    ∃ t, exec .cutCounterExpiry s = .next t ∧
      t.acct = { s.acct with bank := .cut, cutCounter := 0, recoveryCounter := 0, iCeiling := 0 } ∧
      (tget t.log.status Incident.bankCut.no = true ∧
        tget t.log.count Incident.bankCut.no = min 255 (tget s.log.count Incident.bankCut.no + 1)) ∧
      OnEveryLink .energy t ∧ OnEveryLink .incident t ∧
      (∀ n, tget t.light.out n = 0) ∧ (∀ r, t.driveOn r = false) ∧
      t.clim.drain = .opened ∧ t.water.drain = (if s.clim.drain = .opened then s.water.drain else .opened) ∧
      (s.clim.drain ≠ .opened →
        t.clim.openCause = .cut ∧ tget t.log.status Incident.frostDrain.no = true ∧ OnEveryLink .climate t) ∧
      t.clim.heater =
        (match s.clim.heater with
        | .start => .off
        | .run => .off
        | .coolDown => if s.clim.failCount = 3 ∨ s.clim.faultMark = true then .lockout else .off
        | h => h) ∧
      (∀ d, (t.mot.get d).state =
        match (s.mot.get d).state with
        | .deploying => .halted
        | .stowing => .halted
        | .pause _ => .halted
        | x => x) ∧
      LinksQuiet s t ∧
      t = { s with
        acct := t.acct, tab := t.tab, clim := t.clim, water := t.water, mot := t.mot, light := t.light
        links := t.links, log := t.log }) ∧
  ∀ s : State, s.phase = .run → s.acct.loaded = true → s.acct.bank = .cut → 99 ≤ s.acct.recoveryCounter →
    (if s.acct.copy.chemistry = .lead then 10800 else 11600) + 500 < s.mu.bankV → 0 < s.chg.iIn →
    s.chg.shoreEn = true ∨ s.chg.solarEn = true ∨ s.chg.altEn = true →
    ∃ t, exec .recoveryCounterExpiry s = .next t ∧
      t.acct = { s.acct with
        recoveryCounter := 0
        bank := if s.acct.socPm ≤ s.acct.effReserve then .reserve else .normal
        iCeiling := s.acct.copy.iMax *
          (if 0 ≤ s.mu.tBank then 256 else if -20 ≤ s.mu.tBank then 218 else if -40 ≤ s.mu.tBank then 179 else 128) /
            256 } ∧
      OnEveryLink .energy t ∧ LinksQuiet s t ∧
      (∀ k, k ≠ Incident.selftestAbort.no → tget t.log.status k = tget s.log.status k) ∧
      t = { s with
        acct := t.acct, tab := t.tab, test := t.test, mot := t.mot, light := t.light, links := t.links, log := t.log }

/-- R9, R10, R11, R25: the account is synchronised by the 1200th count of full detection, and by a SET_CHARGE, which
takes the C_eff of the last sweep, the charge kept within C_nom (R5). The row FULL_DETECTION is step 2 of R4 alone, with
the last count and the measurements of the last sweep (log 1, log 26). -/
def Obligations.AccountIsSynchronised : Prop :=
  (∀ s : State, s.phase = .run → s.acct.loaded = true → s.acct.fullCounter = 1199 →
    s.acct.copy.vFull ≤ s.mu.bankV → 0 ≤ s.mu.shunt → s.mu.shunt < 2 * (s.acct.copy.cNom : Int) →
    ∃ t, exec .fullDetection s = .next t ∧
      t.acct = { s.acct with
        q := s.acct.copy.cNom * 3600000, sync := .synced, throughput := 0, fullCounter := 1200 } ∧
      t.chg = { s.chg with absorb := s.chg.absorb || s.acct.copy.chemistry == .lithium } ∧
      Raised (if s.acct.sync = .synced then 0 else Event.energy.bit) s t ∧ LinksQuiet s t ∧
      t = { s with acct := t.acct, chg := t.chg, links := t.links }) ∧
  ∀ (l : Link) (tag : Byte) (pm : BitVec 16) (s : State), Ready l s → (s.set.links.get l).configRight = true →
    ∃ t, exec (.setCharge l tag pm) s = .next t ∧
      (let q := min (s.acct.copy.cNom * 3600000) (s.acct.cEff * min 1000 pm.toNat / 1000)
      let soc := min 1000 (q * 1000 / s.acct.cEff)
      t.acct = { s.acct with
        q := q, sync := .manual, throughput := 0, fullCounter := 0, socPm := soc, effReserve := s.acct.copy.reservePm
        bank :=
          if s.acct.bank = .cut then .cut else if soc ≤ s.acct.copy.reservePm then .reserve else .normal }) ∧
      Replied l 0x0F tag (if 1000 < pm.toNat then .clamped else .ok) [] s t ∧ LinksKept l 0x0F s t ∧
      Raised (if s.acct.sync = .manual ∧ t.acct.bank = s.acct.bank then 0 else Event.energy.bit) s t ∧
      t = { s with
        acct := t.acct, tab := t.tab, light := t.light, links := t.links, can := t.can }

/-- R27 to R29: the alternator delay runs out with the engine on. The timer takes its last count and the three
enables are formed from the present permission; an ENERGY event is raised where one changes. The row is the last
count (log 1). -/
def Obligations.AltDelayFormsEnables : Prop :=
  ∀ s : State, s.phase = .run → s.mu.engine = true → s.chg.altTimer + 1 = s.set.charge.altDelay * 10 →
    ∃ t, exec .altDelayExpiry s = .next t ∧
      (let ok := s.chg.permission == .allowed
      t.chg = { s.chg with
        altTimer := s.chg.altTimer + 1, shoreEn := ok && s.mu.shore, solarEn := ok && s.set.charge.solarEnable
        altEn := ok && s.set.charge.altEnable }) ∧
      Raised
        (if t.chg.shoreEn = s.chg.shoreEn ∧ t.chg.solarEn = s.chg.solarEn ∧ t.chg.altEn = s.chg.altEn then 0
        else Event.energy.bit) s t ∧
      LinksQuiet s t ∧ t = { s with chg := t.chg, links := t.links }

/-! ### Allocator and channel protection -/

/-- R88, R89, R91: a restore that falls due brings its class's candidate back: one dimming step for every granted
light of the class, or the record, which for record 1 is the heater's grant notice. The row is the due restoration
between two passes (log 1, log 21). -/
def Obligations.RestoreBringsCandidateBack : Prop :=
  ∀ (c : LoadClass) (s : State), s.restoreDue c = true →
    let old := s.alloc.cls.get c
    ∃ t, exec (.restore c) s = .next t ∧ (t.alloc.cls.get c).counter = 0 ∧ OnEveryLink .grant t ∧ LinksQuiet s t ∧
      (∀ k, k ≠ c → t.alloc.cls.get k = s.alloc.cls.get k) ∧ t.light.dims.get c = (t.alloc.cls.get c).dim ∧
      (∀ d, old.cand = .dim d → (t.alloc.cls.get c).dim = d ∧
        (∀ r ∈ s.members c.no, isDimmed r = true → (s.row r).alloc = .granted → (s.row r).join = false →
          (t.row r).alloc = .granted ∧ (t.row r).granted = (s.row r).ordered * d / 1000) ∧
        (∀ r, r ∉ s.members c.no → t.row r = s.row r) ∧ t.clim = s.clim) ∧
      (∀ r, old.cand = .record r → (t.alloc.cls.get c).dim = old.dim ∧ (t.row r).alloc = .granted ∧
        (r = 1 ∧ 1000 < (s.row 1).ordered ∨
          (t.row r).granted = (if isDimmed r then (s.row r).ordered * old.dim / 1000 else 1000)) ∧
        (∀ k, k ≠ r → t.row k =
          if k ∈ s.members c.no ∧ isDimmed k = true ∧ (s.row k).alloc = .granted ∧ (s.row k).join = false then
            { s.row k with granted := (s.row k).ordered * old.dim / 1000 }
          else s.row k) ∧
        (r = 1 → s.clim.heater = .waitBudget → t.clim.heater = .start ∧ t.clim.startTimer = 1800) ∧
        (r ≠ 1 ∨ s.clim.heater ≠ .waitBudget → t.clim = s.clim)) ∧
      t = { s with
        tab := t.tab, test := t.test, alloc := { s.alloc with cls := t.alloc.cls }, clim := t.clim, light := t.light
        links := t.links, log := t.log }

/-- R45 to R50: a trip by the bucket or by the comparator. The channel goes off, waits for its retry or stays
TRIPPED, and the owner of a function-driven record hears of it. The comparator's threshold is that of the rated current
in force (log 33). The rows carry the measured current (log 1). -/
def Obligations.TripOpensChannel : Prop :=
  ∀ (r : RecNo) (m : Nat) (s : State), s.phase = .run → (s.row r).prot = .normal → s.driveOn r = true →
    CutSafe s →
    let auto := (s.cfg r).policy = .auto
    let waits := auto ∧ (s.row r).retryCount < 3
    let tripped := fun (k : Incident) (t : State) =>
      (t.row r).granted = 0 ∧ t.driveOn r = false ∧
      (waits → (t.row r).prot = .retryWait ∧ (t.row r).retryTimer = 100) ∧
      (¬waits → (t.row r).prot = .tripped) ∧ (t.row r).retryCount = (s.row r).retryCount ∧
      tget t.log.status k.no = true ∧
      (auto → 3 ≤ (s.row r).retryCount → tget t.log.status Incident.retryExhausted.no = true) ∧
      OnEveryLink .trip t ∧ OnEveryLink .incident t ∧
      (r = 0 → t.water.pump = .dryLock) ∧ (r = 1 → t.clim.heater = .lockout) ∧
      (r = 2 → t.clim.drain = .opened) ∧
      t.chg = (if r = 10 then { s.chg with warmerDrop := true, warmerReq := false } else s.chg) ∧
      (∀ k, k ≠ r → k ≠ 0 → t.row k = s.row k) ∧ (r ≠ 1 → r ≠ 2 → t.clim = s.clim) ∧
      (r ≠ 0 → r ≠ 2 → t.water = s.water ∧ t.row 0 = s.row 0) ∧ (r.val < 12 → t.light = s.light) ∧ LinksQuiet s t ∧
      t = { s with
        chg := t.chg, tab := t.tab, clim := t.clim, water := t.water, light := t.light, links := t.links, log := t.log }
    let rated := (s.cfg r).rated
    let bucket :=
      if rated * 5 / 4 < m then min 65535 ((s.row r).bucket + (m - rated)) else (s.row r).bucket - rated / 8
    (r.val < 20 → rated * 20 < bucket →
      ∃ t, exec (.overloadTrip r m) s = .next t ∧ (t.row r).bucket = bucket ∧ tripped .channelTrip t) ∧
    (r.val < 12 → (∀ slot, s.test.seq = .running slot .testing → slot.val ≠ r.val) →
      min (4 * tget s.inForce.rated r) 3000 < m →
      ∃ t, exec (.shortCircuit r m) s = .next t ∧ (t.row r).bucket = (s.row r).bucket ∧ tripped .shortCircuit t)

/-- R45, R48, R80: the end of a retry wait returns the record to NORMAL as a joiner; the end of the quiet time of a NORMAL
record clears its retries. The rows are the last counts (log 1). At a sweep channel protection counts down the waits,
counts up the quiet time of a NORMAL record, and fills or drains the bucket of one that is driven, which trips above its
limit; while RST_N is low it counts nothing (log 23). -/
def Obligations.ProtectionCountsAndTimersEnd : Prop :=
  (∀ s : State, s.phase = .resetLow → s.protectionSweep = s) ∧
  (∀ (r : RecNo) (s : State), s.phase = .run → CutSafe s → r.val < 20 →
    let x := s.row r
    let y := s.protectionSweep.row r
    let m := tget s.mu.currents r
    let rated := (s.cfg r).rated
    let bucket :=
      if s.driveOn r = false then x.bucket
      else if rated * 5 / 4 < m then min 65535 (x.bucket + (m - rated)) else x.bucket - rated / 8
    let trips := s.driveOn r = true ∧ rated * 20 < bucket
    let retries := if 599 ≤ x.quiet then 0 else x.retryCount
    (x.prot = .tripped ∨ x.prot = .unprotected →
      y.prot = x.prot ∧ y.bucket = x.bucket ∧ y.quiet = x.quiet ∧ y.retryCount = x.retryCount ∧
        y.retryTimer = x.retryTimer) ∧
    (x.prot = .retryWait → 1 < x.retryTimer →
      y.prot = .retryWait ∧ y.retryTimer = x.retryTimer - 1 ∧ y.bucket = x.bucket ∧ y.quiet = x.quiet ∧
        y.retryCount = x.retryCount) ∧
    (x.prot = .retryWait → x.retryTimer ≤ 1 →
      y.prot = .normal ∧ y.retryTimer = 0 ∧ y.bucket = 0 ∧ y.quiet = 0 ∧ y.retryCount = min 3 (x.retryCount + 1) ∧
        y.join = true) ∧
    (x.prot = .normal →
      y.quiet = min 600 (x.quiet + 1) ∧ y.bucket = bucket ∧ y.retryCount = retries ∧
        (¬trips → y.prot = .normal ∧ y.retryTimer = x.retryTimer) ∧
        (trips → y.granted = 0 ∧ tget s.protectionSweep.log.status Incident.channelTrip.no = true ∧
          OnEveryLink .trip s.protectionSweep ∧
          if (s.cfg r).policy = .auto ∧ retries < 3 then y.prot = .retryWait ∧ y.retryTimer = 100
          else y.prot = .tripped ∧ y.retryTimer = x.retryTimer))) ∧
  ∀ (r : RecNo) (s : State), s.phase = .run →
    (r.val < 20 → (s.row r).prot = .retryWait → (s.row r).retryTimer ≤ 1 →
      ∃ t, exec (.retryTimerExpiry r) s = .next t ∧
        t.tab = tset s.tab r { s.row r with
          prot := .normal, bucket := 0, retryTimer := 0, retryCount := min 3 ((s.row r).retryCount + 1), quiet := 0
          join := true } ∧
        OnEveryLink .trip t ∧ LinksQuiet s t ∧ ((s.row r).granted = 0 → t.test = s.test ∧ t.log = s.log) ∧
        (r.val < 12 → t.light = s.light) ∧
        t = { s with tab := t.tab, test := t.test, light := t.light, links := t.links, log := t.log }) ∧
    (r.val < 20 → (s.row r).prot = .normal → 599 ≤ (s.row r).quiet →
      ∃ t, exec (.quietTimerExpiry r) s = .next t ∧
        t.tab = tset s.tab r { s.row r with quiet := 600, retryCount := 0 } ∧
        (CutSafe s → t.light = s.light) ∧ t = { s with tab := t.tab, light := t.light })

/-- R15, R52 to R54: a SELFTEST starts with slot 0; each slot ends with its result and starts the next, which tests its
channel or skips it; a drive that comes on in its own slot aborts that test; slot 12, the bank comparator, sets the hard
path and ends the test. The answer of the comparator is an operand (log 29). -/
def Obligations.SelftestRunsSlots : Prop :=
  (∀ (l : Link) (tag : Byte) (s : State), Ready l s → s.admits l .service = true → s.test.seq = .idle →
    s.acct.bank ≠ .cut →
    ∃ t, exec (.selftest l tag) s = .next t ∧
      t.test = { s.test with
        seq := .running 0
          (if s.driveOn 0 = true ∨ (s.row 0).prot = .tripped ∨ (s.row 0).prot = .retryWait then .skipping
          else .testing) } ∧
      Replied l 0x0E tag .accepted [] s t ∧ (∀ k, t.lk k = { afterFrame l 0x0E s k with sent := (t.lk k).sent }) ∧
      t = { s with test := t.test, links := t.links, can := t.can }) ∧
  (∀ (r : RecNo) (f : LoadRec → LoadRec) (s : State), r.val < 12 →
    let t := s.modRec r f
    (∀ slot : Fin 13, slot.val = r.val → s.test.seq = .running slot .testing → s.driveOn r = false →
      t.driveOn r = true →
        t.test = { s.test with seq := .running slot .aborted } ∧
          tget t.log.status Incident.selftestAbort.no = true) ∧
      ((∀ slot : Fin 13, slot.val = r.val → s.test.seq ≠ .running slot .testing) ∨ s.driveOn r = true ∨
        t.driveOn r = false → t.test = s.test ∧ t.log = s.log)) ∧
  ∀ (answered : Bool) (s : State), s.phase = .run →
    (s.test.seq = .idle → exec (.selftestSlotEnd answered) s = .next s) ∧
    ∀ (slot : Fin 13) (mode : SlotMode), s.test.seq = .running slot mode →
      let result :=
        match mode with
        | .testing => if answered then TestResult.pass else .fail
        | .skipping => .skipped
        | .aborted => .aborted
      ∃ t, exec (.selftestSlotEnd answered) s = .next t ∧ t.test.results = tset s.test.results slot result ∧
        LinksQuiet s t ∧
        (result = .fail → tget t.log.status Incident.selftestFail.no = true) ∧
        (∀ next : Fin 13, next.val = slot.val + 1 → ∃ m, t.test.seq = .running next m ∧
          (next = 12 → m = .testing ∧ t.test.discard = true) ∧
          ∀ r : RecNo, r.val = next.val → next ≠ 12 → m =
            if t.driveOn r = true ∨ (t.row r).prot = .tripped ∨ (t.row r).prot = .retryWait then .skipping
            else .testing) ∧
        (slot = 12 → t.test.seq = .idle ∧ OnEveryLink .energy t ∧ t.tab = s.tab ∧
          t.acct = { s.acct with
            hardPath := if result = .pass then .armed else if result = .fail then .lost else s.acct.hardPath }) ∧
        (∀ r : RecNo, r.val = slot.val → r.val < 12 → t.acct = s.acct ∧
          (result = .fail → (t.row r).prot = .unprotected) ∧
          (result = .pass → (s.row r).prot = .unprotected → t.row r = { s.row r with
            prot := .normal, bucket := 0, retryCount := 0, retryTimer := 0, quiet := 0, join := true }) ∧
          (result ≠ .fail → ¬(result = .pass ∧ (s.row r).prot = .unprotected) → t.tab = s.tab)) ∧
        (result ≠ .fail → t.clim = s.clim ∧ t.water = s.water ∧ t.chg = s.chg) ∧
        t = { s with
          acct := t.acct, chg := t.chg, tab := t.tab, test := t.test, clim := t.clim, water := t.water
          links := t.links, log := t.log }

/-! ### Climate and water -/

/-- R95 to R102, R106, R108: a sweep of the climate controller in RUN: the call by the thermostat, the heater's state,
timers, fails and fault mark, record 1's wanted level and a CLIMATE event with a change of state, HEATER_LOCKOUT on
entry to LOCKOUT, then the frost test, which opens the drain. After RST_N the frost test alone is made (log 20). The end
of the start timer is a failed start and begins the afterrun; the end of the afterrun takes the heater to LOCKOUT after
three failed starts or with the fault mark, else to OFF, and on to WAIT_BUDGET where the call is on. The rows are the
last counts (log 1). -/
def Obligations.ClimateFollowsSweepsAndTimers : Prop :=
  (∀ s : State,
    let t := s.climateSweep
    let c := heaterAfter s.clim (callAfter s.clim s.mu.tCabin) s.mu.htrFlt s.mu.flame
    let frost (h : HeaterState) : Prop := s.mu.tValve ≤ 6 ∧ h ≠ .run
    let drains := fun (b : Climate) =>
      (frost b.heater → s.clim.drain = .closed →
        t.clim = { b with
          drain := .opened, openCause := .frost, heldDrive := s.clim.heldDrive.map fun _ => false
          tValve := some s.mu.tValve } ∧
        (t.row 2).wanted = 0 ∧ tget t.log.status Incident.frostDrain.no = true ∧
        (s.phase = .run → t.water.drain = .opened) ∧ (s.phase ≠ .resetLow → OnEveryLink .climate t)) ∧
      (¬frost b.heater ∨ s.clim.drain = .opened →
        t.clim = { b with tValve := some s.mu.tValve } ∧ t.water = s.water ∧ ∀ k, k ≠ 1 → t.row k = s.row k)
    (s.phase = .run →
      drains { c with tCabin := some s.mu.tCabin } ∧ (c.heater = s.clim.heater → t.row 1 = s.row 1) ∧
        (c.heater ≠ s.clim.heater → OnEveryLink .climate t ∧
          (t.row 1).wanted = if c.heater = .off ∨ c.heater = .lockout then 0 else 1000) ∧
        (c.heater = .lockout → s.clim.heater ≠ .lockout → tget t.log.status Incident.heaterLockout.no = true) ∧
        (c.heater = s.clim.heater ∨ c.heater ≠ .lockout → ¬frost c.heater ∨ s.clim.drain = .opened → t.log = s.log)) ∧
      (s.phase = .loading true ∨ s.phase = .resetLow → drains s.clim ∧ t.row 1 = s.row 1) ∧
      (s.phase = .loading false → t = s) ∧ LinksQuiet s t ∧ (∀ k, 2 < k.val → t.row k = s.row k) ∧
      t = { s with clim := t.clim, water := t.water, tab := t.tab, links := t.links, log := t.log }) ∧
  ∀ s : State, s.phase = .run →
    (s.clim.heater = .start → s.clim.startTimer ≤ 1 →
      ∃ t, exec .startTimerExpiry s = .next t ∧
        t.clim = { s.clim with
          heater := .coolDown, faultMark := false, startTimer := 0, coolTimer := 1800
          failCount := min 3 (s.clim.failCount + 1) } ∧
        (t.row 1).wanted = 1000 ∧ (∀ k, k ≠ 1 → t.row k = s.row k) ∧ Raised Event.climate.bit s t ∧
        LinksQuiet s t ∧ t = { s with clim := t.clim, tab := t.tab, links := t.links }) ∧
    (s.clim.heater = .coolDown → s.clim.coolTimer ≤ 1 →
      let locks := s.clim.failCount = 3 ∨ s.clim.faultMark = true
      ∃ t, exec .coolDownTimerExpiry s = .next t ∧
        (locks → t.clim.heater = .lockout ∧ (t.row 1).wanted = 0 ∧ LogTook .heaterLockout s t ∧ FaultFormed t ∧
          Raised (Event.climate.bit ||| Event.incident.bit) s t) ∧
        (¬locks → t.log = s.log ∧ Raised Event.climate.bit s t) ∧
        (¬locks → s.clim.call = false → t.clim.heater = .off ∧ (t.row 1).wanted = 0 ∧
          ((s.row 1).wanted ≠ 0 → 0 < (s.row 1).ordered → (t.row 1).granted = 0)) ∧
        (¬locks → s.clim.call = true → t.clim.heater = .waitBudget ∧ (t.row 1).wanted = 1000 ∧
          (s.row 1 = { s.row 1 with wanted := 1000, wantedBy := .function, ordered := 1000, orderSlot := none } →
            (t.row 1).join = true ∧ (t.row 1).granted = 0)) ∧
        t.clim = { s.clim with heater := t.clim.heater, faultMark := false, startTimer := 0, coolTimer := 0 } ∧
        (∀ k, k ≠ 1 → t.row k = s.row k) ∧ LinksQuiet s t ∧
        t = { s with clim := t.clim, tab := t.tab, links := t.links, log := t.log })

/-- R103, R111, R118, R121: a CLEAR of the heater, a CLEAR of the pump and the CLIMATE group reset, which does both and also
ends a start or a burn and takes back the fault mark of an afterrun. -/
def Obligations.ClearsReleaseHeaterAndPump : Prop :=
  ∀ (l : Link) (tag : Byte) (s : State), Ready l s →
    let released := if s.clim.call = true then HeaterState.waitBudget else .off
    let unlocked := fun (t : State) =>
      (s.clim.heater = .lockout →
        t.clim = { s.clim with
          heater := released, failCount := 0, faultMark := false, startTimer := 0, coolTimer := 0 } ∧
          (t.row 1).wanted = (if s.clim.call = true then 1000 else 0) ∧ OnEveryLink .climate t) ∧
      ∀ k, k ≠ 0 → k ≠ 1 → t.row k = s.row k
    let pumped := fun (t : State) =>
      (s.water.pump = .dryLock →
        t.water = { s.water with pump := pumpRow s, dryTimer := 0, lockCause := none } ∧
          (t.row 0).wanted = (if pumpRow s = .running then 1000 else 0) ∧ OnEveryLink .water t) ∧
      (s.water.pump ≠ .dryLock → t.water = s.water ∧ t.row 0 = s.row 0)
    (s.admits l .service = true →
      (∃ t, exec (.clearHeater l tag) s = .next t ∧ Replied l 0x0B tag .ok [] s t ∧ LinksKept l 0x0B s t ∧
        unlocked t ∧ t.row 0 = s.row 0 ∧
        (s.clim.heater ≠ .lockout → t.clim = { s.clim with failCount := 0 } ∧ t.tab = s.tab) ∧
        t = { s with clim := t.clim, tab := t.tab, links := t.links, can := t.can }) ∧
      ∃ t, exec (.clearPump l tag) s = .next t ∧ Replied l 0x0B tag .ok [] s t ∧ LinksKept l 0x0B s t ∧ pumped t ∧
        (∀ k, k ≠ 0 → t.row k = s.row k) ∧
        t = { s with water := t.water, tab := t.tab, links := t.links, can := t.can }) ∧
    ((s.set.links.get l).configRight = true →
      ∃ t, exec (.resetClimate l tag) s = .next t ∧ Replied l 0x0C tag .ok [] s t ∧ LinksKept l 0x0C s t ∧
        unlocked t ∧ pumped t ∧
        (s.clim.heater = .start ∨ s.clim.heater = .run →
          t.clim = { s.clim with
            heater := .coolDown, failCount := 0, faultMark := false, startTimer := 0, coolTimer := 1800 } ∧
            (t.row 1).wanted = 1000 ∧ OnEveryLink .climate t) ∧
        (s.clim.heater = .coolDown → t.clim = { s.clim with failCount := 0, faultMark := false } ∧ t.row 1 = s.row 1) ∧
        (s.clim.heater = .off ∨ s.clim.heater = .waitBudget →
          t.clim = { s.clim with failCount := 0 } ∧ t.row 1 = s.row 1) ∧
        t = { s with clim := t.clim, water := t.water, tab := t.tab, links := t.links, can := t.can })

/-- R105, R107, R118: with SERVICE in the membership, a CLOSE_DRAIN is OK without change on a closed drain, refused
BANK_CUT in CUT, refused INTERLOCK where record 2 is not NORMAL or the valve is cold and the heater not in RUN, and
else ACCEPTED: the drain closes, record 2 is wanted, the pump is evaluated again. -/
def Obligations.CloseDrainClosesWarmValve : Prop :=
  ∀ (l : Link) (tag : Byte) (s : State), Ready l s → s.admits l .service = true →
    let warm := (∃ v, s.clim.tValve = some v ∧ 14 ≤ v) ∨ s.clim.heater = .run
    let opened := s.clim.drain = .opened
    let keeps := fun (st : Status) => ∃ t, exec (.closeDrain l tag) s = .next t ∧ Replied l 0x10 tag st [] s t ∧
      (∀ k, t.lk k = { afterFrame l 0x10 s k with sent := (t.lk k).sent }) ∧
      t = { s with links := t.links, can := t.can }
    (s.clim.drain = .closed → keeps .ok) ∧ (opened → s.acct.bank = .cut → keeps .bankCut) ∧
    (opened → s.acct.bank ≠ .cut → (s.row 2).prot ≠ .normal ∨ ¬warm → keeps .interlock) ∧
    (opened → s.acct.bank ≠ .cut → (s.row 2).prot = .normal → warm →
      ∃ t, exec (.closeDrain l tag) s = .next t ∧ Replied l 0x10 tag .accepted [] s t ∧ LinksKept l 0x10 s t ∧
        t.clim = { s.clim with drain := .closed } ∧ (t.row 2).wanted = 1000 ∧ OnEveryLink .climate t ∧
        (s.water.pump = .dryLock → t.water = { s.water with drain := .closed } ∧ t.row 0 = s.row 0) ∧
        (s.water.pump ≠ .dryLock →
          t.water.pump = pumpRow { s with water := { s.water with drain := .closed } } ∧
            t.water = { s.water with drain := .closed, pump := t.water.pump, dryTimer := t.water.dryTimer }) ∧
        (∀ k, k ≠ 0 → k ≠ 2 → t.row k = s.row k) ∧
        t = { s with clim := t.clim, water := t.water, tab := t.tab, links := t.links, can := t.can })

/-- R118, R119, R121: at a sweep the water controller evaluates the pump by its table, counts the dry run of a driven
pump up to DRY_LOCK, and releases a DRY_LOCK of cause DRY once the level has risen by 100; any other DRY_LOCK stays. The
dry-run timer reaches its limit: the pump enters DRY_LOCK with cause DRY, the level at lock is noted, record 0 is wanted
no more and DRY_RUN is raised. The row is the last count (log 1). -/
def Obligations.PumpIsEvaluatedAndLocksDry : Prop :=
  (∀ s : State, s.phase = .run → OtherSettingsOk s.set → (s.row 0).ordered ≤ 1000 →
    let t := s.waterSweep
    let w := s.water
    let locked := w.pump = .dryLock
    let freed := w.lockCause = some .dry ∧ w.levelAtLock + 100 ≤ t.water.level
    let runs := pumpRow t = .running
    let n := (if w.pump = .running then w.dryTimer else 0) + if s.driveOn 0 = true then 1 else 0
    let dry := ¬locked ∧ runs ∧ s.driveOn 0 = true ∧ s.set.water.dryLimit * 10 ≤ n
    (locked → ¬freed → t.water.pump = .dryLock ∧ t.water.lockCause = w.lockCause ∧
        t.water.levelAtLock = w.levelAtLock ∧ t.row 0 = s.row 0) ∧
      (locked → freed → t.water.pump = pumpRow t ∧ t.water.lockCause = none) ∧
      (dry → t.water.pump = .dryLock ∧ t.water.lockCause = some .dry ∧ t.water.levelAtLock = t.water.level ∧
        t.water.dryTimer = 0 ∧ tget t.log.status Incident.dryRun.no = true) ∧
      (¬dry → t.log = s.log) ∧ (¬locked → ¬dry → t.water.pump = pumpRow t) ∧
      (¬locked → ¬dry → t.water.dryTimer = if runs then n else 0) ∧
      (t.water.pump ≠ w.pump → (t.row 0).wanted = (if t.water.pump = .running then 1000 else 0) ∧
        OnEveryLink .water t)) ∧
  ∀ s : State, s.phase = .run → s.water.pump = .running → s.driveOn 0 = true →
    s.set.water.dryLimit * 10 ≤ s.water.dryTimer + 1 →
    ∃ t, exec .dryRunTimerExpiry s = .next t ∧
      t.water = { s.water with
        pump := .dryLock, dryTimer := 0, levelAtLock := s.water.level, lockCause := some .dry } ∧
      (t.row 0).wanted = 0 ∧ ((s.row 0).wanted ≠ 0 → 0 < (s.row 0).ordered → (t.row 0).granted = 0) ∧
      (∀ k, k ≠ 0 → t.row k = s.row k) ∧
      LogTook .dryRun s t ∧ FaultFormed t ∧ Raised (Event.water.bit ||| Event.incident.bit) s t ∧ LinksQuiet s t ∧
      t = { s with water := t.water, tab := t.tab, links := t.links, log := t.log }

/-! ### Motion -/

/-- R125, R127, R130 to R133, R135, R136, R138: one sweep of a motion controller in RUN. The latch seen engaging stops a
movement with LATCH_STOP or leaves the device LATCHED; seen releasing it leaves a LATCHED device as the end switches
show it. Otherwise the travel is counted and the movement ends by switch, target, stall or time, and a rested PAUSE ends;
then a press of the button commands by the state reached, or IGN seen turning on is reported and stows. Without a
press the step light follows the step. Where the latch and IGN are seen changing at once, or with a press, nothing is
said of the state. -/
def Obligations.MotionFollowsSweeps : Prop :=
  ∀ (d : Device) (s : State), s.phase = .run →
    let m := s.mot.get d
    let i := s.inputs d
    let before := s.inputsBefore d
    let pressed := i.button = true ∧ before.button = false
    let started := s.mu.ign = true ∧ s.prev.ign = false
    let engaged := i.latch = true ∧ before.latch = false
    let released := i.latch = false ∧ before.latch = true ∧ m.state = .latched
    let x := stateAfter s d
    let rested := { m with state := x, rest := min 5 (m.rest + 1) }
    let moving (y : MotionState) : Prop := y = .deploying ∨ y = .stowing
    let paused (y : MotionState) : Prop := ∃ p, y = .pause p
    let fault (y : MotionState) : Prop := ∃ c, y = .fault c
    let t := s.motionSweep d
    let u := t.mot.get d
    (engaged → ¬pressed → ¬started → u.runMs = m.runMs ∧
      (moving m.state ∨ paused m.state → u.state = .fault .latch ∧ OnEveryLink .motion t ∧
        tget t.log.status Incident.latchStop.no = true) ∧
      (m.state = .stowed ∨ m.state = .deployed ∨ m.state = .halted → u.state = .latched ∧ OnEveryLink .motion t) ∧
      (fault m.state ∨ m.state = .latched → u.state = m.state) ∧
      (¬moving m.state → ¬paused m.state → t.log = s.log)) ∧
    (released → ¬pressed → ¬started → t.log = s.log ∧ OnEveryLink .motion t ∧
      u.state = (if i.inSw && i.outSw then .fault .sensor else if i.inSw then .stowed
        else if i.outSw then .deployed else .halted) ∧
      u.runMs = if i.inSw == i.outSw then m.runMs else if i.inSw then 0 else s.set.motion.tFull.get d * 1000) ∧
    (¬engaged → ¬released → ¬pressed → ¬started →
      u.state = x ∧ u.runMs = runAfter s d ∧
        (x.no ≠ m.state.no → OnEveryLink .motion t ∧
          (t.row d.motor).wanted = if moving x then 1000 else 0) ∧
        (x = m.state → (t.row d.motor).wanted = (s.row d.motor).wanted) ∧
        (moving m.state → x = m.state → u.travel = min 900 (m.travel + 1) ∧ u.stall = stallAfter s d) ∧
        (∀ q, m.state = .pause (.outward q) → x = .deploying → u.target = q) ∧
        (moving m.state → x = .fault .stall → tget t.log.status Incident.stall.no = true) ∧
        (moving m.state → x = .fault .timeout → tget t.log.status Incident.travelTimeout.no = true) ∧
        (¬moving m.state ∨ ¬(x = .fault .stall ∨ x = .fault .timeout) → t.log = s.log)) ∧
    (¬engaged → ¬released → pressed → ¬started → u.runMs = runAfter s d ∧
      (moving x ∨ paused x → u.state = .halted) ∧ (fault x ∨ x = .latched → u.state = x) ∧
      (i.latch = true → ¬moving x → ¬paused x → u.state = x) ∧
      (i.latch = false → m.state = x → x = .stowed ∨ x = .halted →
        u.state = (if clearToDeploy d s then beginOut rested 1000 else x) ∧
          (clearToDeploy d s = true → u.target = 1000 ∧ u.source = .button)) ∧
      (i.latch = false → m.state = x → x = .deployed →
        u.state = (if s.acct.bank = .cut then x else beginIn rested) ∧ (s.acct.bank ≠ .cut → u.source = .button))) ∧
    (¬engaged → ¬released → ¬pressed → started → u.runMs = runAfter s d ∧
      (x = .stowed → u.state = .stowed) ∧
      (let stows := i.latch = false ∧ s.acct.bank ≠ .cut ∧ (d = .awning → s.set.motion.stowOnIgn = true) ∧
        (d = .step → ¬fault x)
      (¬stows → u.state = x) ∧
        (stows → m.state = x ∨ moving x ∨ paused x → u.state = (stowRow rested).1)) ∧
      (d = .awning → x ≠ .stowed → tget t.log.status Incident.driveAway.no = true ∧ OnEveryLink .vehicle t) ∧
      (d = .step → fault x ∨ x = .latched ∨
          (x = .deploying ∨ x = .deployed ∨ x = .halted ∨ paused x) ∧ (i.latch = true ∨ s.acct.bank = .cut) →
        tget t.log.status Incident.driveAway.no = true) ∧
      (x = m.state → x = .stowed → t.log = s.log) ∧
      (d = .step → x = m.state → ¬fault x → x ≠ .latched → i.latch = false → s.acct.bank ≠ .cut → t.log = s.log)) ∧
    (¬pressed → StepLightFollows s t) ∧
    (∀ k, k ≠ d.motor → (d = .step → k.val ≠ 12 + s.set.light.stepLight.val) → t.row k = s.row k) ∧
    (∀ k, k ≠ d → t.mot.get k = s.mot.get k) ∧ LinksQuiet s t ∧
    t = { s with
      reg := t.reg, tab := t.tab, light := t.light, mot := t.mot, links := t.links, log := t.log }

/-- R125, R129, R130, R138: DEPLOY, and EXTEND_TO of the awning, taken in every state of the controller with the latch free and
the deploy checks passed. The motor is wanted exactly while it deploys (R125). A step that leaves STOWED places its
light's demand where there is room (R138), and no other record is touched. A command that is taken sets the target in
every cell (log 19); the position is formed with the travel time in force (R124, R127). -/
def Obligations.DeployIsTakenByState : Prop :=
  ∀ (l : Link) (tag device : Byte) (d : Device) (s : State), Ready l s → s.admits l .exterior = true →
    (device = 0 ∧ d = .awning) ∨ (device = 1 ∧ d = .step) → (s.inputs d).latch = false →
    clearToDeploy d s = true →
    let m := s.mot.get d
    let taken := fun (i : Instr) (p : Nat) (reached clamped : Bool) =>
      let row := deployRow m p reached
      let refused := row.2 = .locked ∨ row.2 = .latched
      let begins : Prop := row.1 = .deploying ∧ m.state ≠ .deploying
      ∃ t, exec i s = .next t ∧ (t.mot.get d).state = row.1 ∧
        (t.mot.get d).target = (if refused then m.target else p) ∧
        (t.mot.get d).source = (if row.2 = .accepted then .link l else m.source) ∧
        (t.mot.get d).runMs = m.runMs ∧ (t.mot.get d).travel = (if begins then 0 else m.travel) ∧
        (t.mot.get d).stall = (if begins then 0 else m.stall) ∧ (∀ k, k ≠ d → t.mot.get k = s.mot.get k) ∧
        (row.1 ≠ m.state ∨ row.2 = .accepted →
          (t.row d.motor).wanted = (if row.1 = .deploying then 1000 else 0) ∧ (t.row d.motor).wantedBy = .motion) ∧
        (¬(row.1 ≠ m.state ∨ row.2 = .accepted) → t.row d.motor = s.row d.motor) ∧
        Replied l 0x04 tag (if clamped = true ∧ ¬refused then .clamped else row.2) [] s t ∧ LinksKept l 0x04 s t ∧
        (∀ k, k ≠ d.motor → k.val ≠ 12 + s.set.light.stepLight.val → t.row k = s.row k) ∧ StepLightFollows s t ∧
        (∀ k, (t.lk k).pending ||| Event.demand.bit =
          (s.lk k).pending ||| (if row.1.no = m.state.no then 0 else Event.motion.bit) ||| Event.demand.bit) ∧
        t = { s with
          reg := t.reg, tab := t.tab, light := t.light, mot := t.mot, links := t.links, can := t.can }
    taken (.deploy l tag device) 1000 false false ∧
      ∀ q : BitVec 16, d = .awning →
        let p := min 1000 q.toNat
        taken (.extendTo l tag device q) p (decide (p ≤ m.runMs * 1000 / (s.inForce.tFull.get d * 1000)))
          (decide (1000 < q.toNat))

/-- R125, R129, R130: STOW with the latch free and the bank not CUT, and HALT, taken in every state of the controller. The
motor is wanted exactly while it stows. -/
def Obligations.StowAndHaltAreTakenByState : Prop :=
  ∀ (l : Link) (tag device : Byte) (d : Device) (s : State), Ready l s → s.admits l .exterior = true →
    (device = 0 ∧ d = .awning) ∨ (device = 1 ∧ d = .step) →
    let m := s.mot.get d
    let taken := fun (i : Instr) (row : MotionState × Status) =>
      ∃ t, exec i s = .next t ∧ (t.mot.get d).state = row.1 ∧ (t.mot.get d).target = m.target ∧
        (t.mot.get d).source = (if row.2 = .accepted then .link l else m.source) ∧
        (t.mot.get d).runMs = m.runMs ∧ (row.1.dir = none → t.driveOn d.motor = false) ∧
        (row.1 ≠ m.state ∨ row.2 = .accepted →
          (t.row d.motor).wanted = (if row.1 = .stowing then 1000 else 0) ∧ (t.row d.motor).wantedBy = .motion) ∧
        (¬(row.1 ≠ m.state ∨ row.2 = .accepted) → t.row d.motor = s.row d.motor) ∧
        (row.1 = .stowing ∧ m.state ≠ .stowing → (t.mot.get d).travel = 0 ∧ (t.mot.get d).stall = 0) ∧
        (∀ k, k ≠ d → t.mot.get k = s.mot.get k) ∧ (∀ k, k ≠ d.motor → t.row k = s.row k) ∧
        Replied l 0x04 tag row.2 [] s t ∧ LinksKept l 0x04 s t ∧
        Raised (if row.1.no = m.state.no then 0 else Event.motion.bit) s t ∧
        t = { s with mot := t.mot, tab := t.tab, links := t.links, can := t.can }
    ((s.inputs d).latch = false → s.acct.bank ≠ .cut → taken (.stow l tag device) (stowRow m)) ∧
      taken (.halt l tag device) (haltRow m)

/-- R128 to R130: the refusals of a MOTION request. An engaged latch refuses all but HALT. DEPLOY and EXTEND_TO meet the
deploy checks in every state that begins, reverses or resumes a movement out, STOW meets the stow check in every state
that begins or reverses one in; FAULT refuses the first two LOCKED, and STOW where its cause is SENSOR; LATCHED refuses
all four. A device code that names nothing, and an EXTEND_TO of the step, are no target; a command code that names no
command is no value. -/
def Obligations.MotionRefusalsLeaveController : Prop :=
  ∀ (l : Link) (tag device : Byte) (s : State), Ready l s → s.admits l .exterior = true →
    let refused := fun (i : Instr) (st : Status) =>
      ∃ t, exec i s = .next t ∧ Replied l 0x04 tag st [] s t ∧
        (∀ k, t.lk k = { afterFrame l 0x04 s k with sent := (t.lk k).sent }) ∧
        t = { s with links := t.links, can := t.can }
    (1 < device.toNat → refused (.deploy l tag device) .badTarget ∧ refused (.stow l tag device) .badTarget ∧
      refused (.halt l tag device) .badTarget ∧ ∀ q, refused (.extendTo l tag device q) .badTarget) ∧
    (device = 1 → ∀ q, refused (.extendTo l tag device q) .badTarget) ∧
    (∀ f : Frame, f.kind = 0x04 → f.tag = tag → f.b2 = device → 3 < f.b3.toNat →
      refused (.unknownKind l f) (if 1 < device.toNat then .badTarget else .badValue)) ∧
    ∀ d : Device, (device = 0 ∧ d = .awning) ∨ (device = 1 ∧ d = .step) →
      let x := (s.mot.get d).state
      let latch := (s.inputs d).latch
      let stow := Instr.stow l tag device
      let paused : Prop := ∃ p, x = .pause p
      let out := fun (st : Status) =>
        refused (.deploy l tag device) st ∧ (d = .awning → ∀ q, refused (.extendTo l tag device q) st)
      (latch = true → out .latched ∧ refused stow .latched) ∧
      (latch = false → (∃ c, x = .fault c) → out .locked) ∧
      (latch = false → x = .fault .sensor → refused stow .locked) ∧
      (latch = false → x = .latched → out .latched ∧ refused stow .latched) ∧
      (x = .latched → refused (.halt l tag device) .latched) ∧
      (latch = false → x = .stowed ∨ x = .halted ∨ x = .stowing ∨ paused →
        (s.acct.bank = .cut → out .bankCut) ∧
        (s.acct.bank ≠ .cut → s.mu.bankV < s.set.motion.motionMin → out .interlock) ∧
        (s.acct.bank ≠ .cut → s.set.motion.motionMin ≤ s.mu.bankV →
          (d = .awning → s.mu.ign = true → out .interlock) ∧
          (d = .awning → s.mu.ign = false → s.wind.lock = true → out .locked) ∧
          (d = .step → (∃ v, s.vehicle.speed = some v ∧ 3 ≤ v) ∨ (s.vehicle.speed = none ∧ s.mu.ign = true) →
            out .interlock))) ∧
      (latch = false → x = .deploying ∨ x = .deployed ∨ x = .halted ∨ paused ∨ (∃ c, x = .fault c ∧ c ≠ .sensor) →
        s.acct.bank = .cut → refused stow .bankCut)

/-- R130: the rest count of a device in PAUSE reaches 5. A pending stow begins unless the bank is CUT, a pending
deploy begins if the deploy checks pass; otherwise the controller is HALTED. R131, R132, R165: the travel timer, and with
the bridge on the stall counter, end a movement in FAULT; the incident names the source of the movement and the motor
record. The rows are the last counts (log 1). -/
def Obligations.PausesAndMovementsEnd : Prop :=
  (∀ (d : Device) (p : Pending) (s : State), s.phase = .run → (s.mot.get d).state = .pause p →
    4 ≤ (s.mot.get d).rest →
    let m := s.mot.get d
    ∃ t, exec (.pauseEnd d) s = .next t ∧
      (p = .inward → s.acct.bank ≠ .cut → (t.mot.get d).state = .stowing ∧ (t.row d.motor).wanted = 1000) ∧
      (p = .inward → s.acct.bank = .cut → (t.mot.get d).state = .halted) ∧
      (∀ q, p = .outward q → clearToDeploy d s = true →
        (t.mot.get d).state = .deploying ∧ (t.mot.get d).target = q ∧ (t.row d.motor).wanted = 1000) ∧
      (∀ q, p = .outward q → clearToDeploy d s = false → (t.mot.get d).state = .halted ∧ (t.mot.get d).target = m.target) ∧
      ((t.mot.get d).state ≠ .halted → (t.mot.get d).travel = 0 ∧ (t.mot.get d).stall = 0) ∧
      (t.mot.get d).rest = 5 ∧ (t.mot.get d).runMs = m.runMs ∧ (∀ k, k ≠ d → t.mot.get k = s.mot.get k) ∧
      (∀ k, k ≠ d.motor → t.row k = s.row k) ∧ Raised Event.motion.bit s t ∧ LinksQuiet s t ∧
      t = { s with mot := t.mot, tab := t.tab, links := t.links }) ∧
  ∀ (d : Device) (s : State), s.phase = .run → s.handling = none → (s.mot.get d).state.dir ≠ none →
    let m := s.mot.get d
    let faulted := fun (i : Instr) (c : FaultCause) (k : Incident) =>
      ∃ t, exec i s = .next t ∧ (t.mot.get d).state = .fault c ∧ (t.mot.get d).runMs = m.runMs ∧
        (t.mot.get d).target = m.target ∧ t.driveOn d.motor = false ∧ (t.row d.motor).wanted = 0 ∧
        (∀ j, j ≠ d → t.mot.get j = s.mot.get j) ∧ (∀ r, r ≠ d.motor → t.row r = s.row r) ∧
        LogTook k s t ∧ FaultFormed t ∧
        (s.log.capture = none → ∃ x, t.log.capture = some x ∧ x.block = .motion ∧ x.target = some d.motor.val ∧
          x.origin =
            match m.source with
            | .link l => .link l
            | .button => .button
            | .automatic => .block .motion) ∧
        Raised (Event.motion.bit ||| Event.incident.bit) s t ∧ LinksQuiet s t ∧
        t = { s with mot := t.mot, tab := t.tab, links := t.links, log := t.log }
    (s.set.motion.tFull.get d * 15 ≤ m.travel + 1 → faulted (.travelTimeout d) .timeout .travelTimeout) ∧
      (s.driveOn d.motor = true → 2 ≤ m.stall → faulted (.stall d) .stall .stall)

/-- R137: a wind window at or below the limit, one above it, and the third in succession above it, which locks the
awning and stows it. The lock ends when its timer does. The rows WIND_STOW and WIND_LOCK_TIMER_EXPIRY are the last
counts (log 1). -/
def Obligations.WindLocksAndStowsAwning : Prop :=
  ∀ (n : Nat) (s : State), s.phase = .run →
    let speed := n * s.set.motion.windFactor / 10
    let m := s.mot.awning
    let reached := fun (pulses speed : Nat) (t : State) =>
      t.wind = { pulses := pulses, speed := speed, count := 3, lock := true, timer := 600 } ∧
      t.mot.step = s.mot.step ∧ (∀ k, k ≠ 20 → t.row k = s.row k) ∧ LinksQuiet s t ∧
      (m.state = .stowed → t = { s with wind := t.wind }) ∧
      (m.state ≠ .stowed → tget t.log.status Incident.windStow.no = true ∧ OnEveryLink .incident t) ∧
      (m.state = .latched → tget t.log.status Incident.latchStop.no = true ∧ t.mot = s.mot) ∧
      (s.mu.awn.latch = true ∨ s.acct.bank = .cut → t.mot = s.mot) ∧
      (s.mu.awn.latch = false → s.acct.bank ≠ .cut → t.mot.awning.state = (stowRow m).1) ∧
      t = { s with wind := t.wind, mot := t.mot, tab := t.tab, links := t.links, log := t.log }
    (∃ t, exec (.windWindowCompletion n) s = .next t ∧
      (speed ≤ s.set.motion.windLimit →
        t = { s with wind :=
          { pulses := n, speed := speed, count := 0, lock := s.wind.lock && decide (1 < s.wind.timer)
            timer := if s.wind.lock then s.wind.timer - 1 else s.wind.timer } }) ∧
      (s.set.motion.windLimit < speed → s.wind.count ≠ 2 →
        t = { s with wind :=
          { pulses := n, speed := speed, count := min 3 (s.wind.count + 1), lock := s.wind.lock
            timer := if s.wind.lock then 600 else s.wind.timer } }) ∧
      (s.set.motion.windLimit < speed → s.wind.count = 2 → reached n speed t)) ∧
    (s.wind.count = 2 → ∃ t, exec .windStow s = .next t ∧ reached s.wind.pulses s.wind.speed t) ∧
    (s.wind.lock = true → s.wind.timer ≤ 1 →
      exec .windLockTimerExpiry s =
        .next { s with wind := { s.wind with count := 0, lock := false, timer := 0 } })

/-- R133, R134, R138, R140, R141: a CLEAR of a controller in FAULT computes its state again from the inputs, in any other state
it changes nothing; the MOTION group reset computes both again. A change of motion state is a MOTION event, and the
step light follows the step. -/
def Obligations.MotionIsRecomputed : Prop :=
  ∀ (l : Link) (tag : Byte) (s : State), Ready l s →
    let moved := fun (t : State) =>
      ((∃ d, (t.mot.get d).state.no ≠ (s.mot.get d).state.no) → OnEveryLink .motion t) ∧
        ((∀ d, (t.mot.get d).state.no = (s.mot.get d).state.no) → ∀ k,
          (t.lk k).pending.getLsbD Event.motion.no = (s.lk k).pending.getLsbD Event.motion.no)
    (∀ (index : Byte) (d : Device), (index = 0 ∧ d = .awning) ∨ (index = 1 ∧ d = .step) →
      s.admits l .exterior = true →
      ∃ t, exec (.clearMotion l tag index) s = .next t ∧ Replied l 0x0B tag .ok [] s t ∧ LinksKept l 0x0B s t ∧
        (∀ c, (s.mot.get d).state = .fault c → Recomputed d s t) ∧
        ((∀ c, (s.mot.get d).state ≠ .fault c) → t = { s with links := t.links, can := t.can }) ∧
        (∀ k, k ≠ d → t.mot.get k = s.mot.get k) ∧ moved t ∧ StepLightFollows s t ∧
        (d = .awning → t = { s with mot := t.mot, tab := t.tab, links := t.links, can := t.can }) ∧
        t = { s with
          reg := t.reg, tab := t.tab, light := t.light, mot := t.mot, links := t.links, can := t.can }) ∧
    ((s.set.links.get l).configRight = true →
      ∃ t, exec (.resetMotion l tag) s = .next t ∧ Replied l 0x0C tag .ok [] s t ∧ LinksKept l 0x0C s t ∧
        (∀ d, Recomputed d s t) ∧ (∀ d : Device, (t.row d.motor).wanted = 0) ∧ t.wind = s.wind ∧ moved t ∧ StepLightFollows s t ∧
        t = { s with
          reg := t.reg, tab := t.tab, light := t.light, mot := t.mot, links := t.links, can := t.can })

/-! ### Settings, clears and resets -/

/-- R2, R58, R65, R66, R68, R70, R112, R124, R148, R150, R156, R159: CONFIGURE. With STAGE a change of a known code waits at the
tail of the batch. Without STAGE the batch and the change are taken as one operation, or none of it is, and the batch is
emptied. During a save either is refused BUSY. The new settings are those of `newSettings` (log 13, log 14). The register
takes lowered ceilings, tether removals and rest levels as one operation, so that a record whose resolved value is the
same before and after keeps its row; it echoes by the new echo sets, and link C's attention goes by its new mask (log 13).
A STEP entry held on the old step light is then withdrawn and placed on the new one, with nothing between (log 36). A
changed standing reaches the live standing, the silence timer, the batch and the snapshot of its link, and is told to the
other two where the live standing changes. -/
def Obligations.ConfigureTakesWholeBatch : Prop :=
  ∀ (l : Link) (tag code index : Byte) (value : BitVec 24) (s : State), Ready l s →
    (s.set.links.get l).configRight = true →
    let change : Change := { code := code, index := index, value := value }
    let all := (s.lk l).batch ++ [change]
    let answered := fun (i : Instr) (st : Status) (batch : List Change) =>
      ∃ t, exec i s = .next t ∧ Replied l 0x0A tag st [] s t ∧
        (∀ k, t.lk k = { afterFrame l 0x0A s k with
          batch := if k = l then batch else (s.lk k).batch, sent := (t.lk k).sent }) ∧
        t = { s with links := t.links, can := t.can }
    (s.store.saving ≠ none →
      answered (.configureStage l tag code index value) .busy (s.lk l).batch ∧
        answered (.configure l tag code index value) .busy (s.lk l).batch) ∧
    (s.store.saving = none → knownCode code.toNat = true → (s.lk l).batch.length < 8 →
      answered (.configureStage l tag code index value) .ok all) ∧
    (s.store.saving = none → knownCode code.toNat = false ∨ 8 ≤ (s.lk l).batch.length →
      answered (.configureStage l tag code index value) .badValue (s.lk l).batch) ∧
    (s.store.saving = none → newSettings all s.set = none →
      answered (.configure l tag code index value) .badValue []) ∧
    ∀ (new : Settings) (clamped : Bool), s.store.saving = none → newSettings all s.set = some (new, clamped) →
      ∃ t, exec (.configure l tag code index value) s = .next t ∧ t.set = new ∧
        t.store = { s.store with modified := true } ∧
        Replied l 0x0A tag (if clamped then .clamped else .ok) [] s t ∧
        TookSettings new.acct s.acct t.acct ∧
        t.chg = { s.chg with
          absorb := s.chg.absorb && !(new.acct.chemistry == .lead && s.acct.copy.chemistry == .lithium) } ∧
        (∀ d, t.mot.get d =
          { s.mot.get d with runMs := min (new.motion.tFull.get d * 1000) (s.mot.get d).runMs }) ∧
        (t.water.refill = (s.water.refill || new.water.freshEmpty != s.set.water.freshEmpty ||
          new.water.freshFull != s.set.water.freshFull)) ∧
        (let lowered := fun (k : Link) => (new.links.get k).ceiling < (s.set.links.get k).ceiling
        let leaves := fun (k : Link) => (new.links.get k).standing ≠ (s.set.links.get k).standing ∧
          ((new.links.get k).standing = .off ∨
            (new.links.get k).standing = .watch ∧ ((s.lk k).live = .act ∨ (s.lk k).live = .lapsed))
        let lamp := lightRec s.set.light.stepLight
        let lamp' := lightRec new.light.stepLight
        let on := fun (r : RecNo) (e : Entry) => e.origin == .step && e.target == r.val
        let moves : Bool := lamp != lamp' && s.reg.any (on lamp)
        let stepOn : Entry := { origin := .step, target := lamp'.val, level := 1000, prec := 2, hold := .persist }
        ∃ (cap : Entry → Entry) (keeps : Entry → Bool),
          (∀ e, cap e = { e with prec := (cap e).prec } ∧
            (∀ k, e.origin = k.origin → lowered k → (cap e).prec = min (new.links.get k).ceiling e.prec) ∧
            ((∀ k, e.origin = k.origin → ¬lowered k) → cap e = e)) ∧
          (∀ e, keeps e = false ↔ e.hold = .tethered ∧ ∃ k, e.origin = k.origin ∧ leaves k) ∧
          (let held := (s.reg.filter keeps).map cap
          (moves = false → t.reg = held) ∧
            (moves = true → s.reg.length ≤ 32 →
              t.reg = held.filter (fun e => !(on lamp e || on lamp' e)) ++ [stepOn])) ∧
          (s.reg.length ≤ 32 → ∀ k, (t.lk k).pending =
            (s.lk k).pending ||| (if t.acct.sync = s.acct.sync then 0 else Event.energy.bit) |||
              (if (allLinks.any fun j => j != k && (t.lk j).live != (s.lk j).live) = true then Event.link.bit else 0) |||
              registerEvents
                ((s.reg.filter fun e => !(keeps e) || cap e != e).map (·.origin) ++ if moves then [.step] else [])
                s t k) ∧
          (∀ r, isRegisterRec r.val = true →
            if resolveIn new t.reg r.val = resolveIn s.set s.reg r.val then
              (moves = true → r ≠ lamp ∧ r ≠ lamp') → (t.row r).wanted = (s.row r).wanted ∧
                (t.row r).wantedBy = (s.row r).wantedBy ∧ (new.slots = s.set.slots → t.row r = s.row r)
            else (t.row r).wanted = storeLevel r (resolveIn new t.reg r.val).1 ∧
              (t.row r).wantedBy = (resolveIn new t.reg r.val).2) ∧
          (OrdersFormed s →
            ModesHandedOn new s { t with water := { t.water with refill := s.water.refill } })) ∧
        (t.attention .c = false → (t.lk .c).sent = (s.lk .c).sent) ∧
        (∀ k,
          let j := afterFrame l 0x0A s k
          let now := new.links.get k
          let changed : Prop := now.standing ≠ (s.set.links.get k).standing
          let stops : Prop := changed ∧ now.standing = .off
          let starts : Prop :=
            changed ∧ (now.standing = .watch ∧ j.live = .off ∨ now.standing = .act ∧ (j.live = .off ∨ j.live = .watch))
          t.lk k = { j with
            live :=
              if changed then
                match now.standing with
                | .off => .off
                | .watch => .watch
                | .act => if j.live = .lapsed then .lapsed else .act
              else j.live
            timer := if stops then none else if starts then some 0 else j.timer
            shortTaken := if starts then false else j.shortTaken
            longTaken := if starts then false else j.longTaken
            shortN := if starts then now.shortN else j.shortN
            longN := if starts then now.longN else j.longN
            batch := if k = l ∨ stops then [] else j.batch
            snapshot := if stops then none else j.snapshot
            mask := if all.any (fun c => c.code == 0x47 && c.index.toNat == k.no) then now.eventMask else j.mask
            echo := now.echo, pending := (t.lk k).pending, sent := (t.lk k).sent }) ∧
        FaultFormed t ∧
        t = { s with
          acct := t.acct, chg := t.chg, set := t.set, tab := t.tab, reg := t.reg, clim := t.clim, water := t.water
          mot := t.mot, light := t.light, links := t.links, can := t.can
          log := { s.log with faultN := t.log.faultN }, store := t.store }

/-- R1, R33, R35, R73, R78, R112, R124, R142, R145, R150, R159, R167: what one change of each code makes of the settings:
its value clamped into the range of the owning chapter and the reply CLAMPED, or the change refused. A changed chemistry
gives η and V_full their defaults; fresh_full never equals fresh_empty; long n stays above short n. Changes of other
codes are made one after the other. That enumerations and flags clamp as numbers do is log 14. -/
def Obligations.CodesWriteTheirSettings : Prop :=
  ∀ (cfg : Settings) (value : BitVec 24), OtherSettingsOk cfg → cfg.water.freshFull ≠ cfg.water.freshEmpty →
    let v := value.toNat
    let got := fun (code index : Byte) => newSettings [{ code := code, index := index, value := value }] cfg
    let within := fun (lo hi : Nat) (put : Nat → Settings) =>
      (some (put (max lo (min hi v)), decide (v < lo ∨ hi < v)) : Option (Settings × Bool))
    let onOff := fun (put : Bool → Settings) =>
      (some (put (decide (v ≠ 0)), decide (1 < v)) : Option (Settings × Bool))
    let plain := fun (new : Settings) => (some (new, false) : Option (Settings × Bool))
    let acct := fun (a : AcctSettings) => { cfg with acct := a }
    let charge := fun (c : ChargeSettings) => { cfg with charge := c }
    let weights := fun (w : PerClass Nat) => { cfg with alloc := { cfg.alloc with weights := w } }
    let water := fun (w : WaterSettings) => { cfg with water := w }
    let motion := fun (m : MotionSettings) => { cfg with motion := m }
    let light := fun (x : LightSettings) => { cfg with light := x }
    let known := fun (c : Nat) =>
      1 ≤ c ∧ c ≤ 6 ∨ 8 ≤ c ∧ c ≤ 0x0B ∨ 0x10 ≤ c ∧ c ≤ 0x15 ∨ 0x18 ≤ c ∧ c ≤ 0x1B ∨ 0x20 ≤ c ∧ c ≤ 0x24 ∨
        0x28 ≤ c ∧ c ≤ 0x2B ∨ 0x30 ≤ c ∧ c ≤ 0x3D ∨ 0x40 ≤ c ∧ c ≤ 0x49 ∨ c = 0x50 ∨ c = 0x51 ∨ c = 0x58 ∨ c = 0x59
    let free := fun (c : Change) =>
      c.code ≠ 0x02 ∧ c.code ≠ 0x28 ∧ c.code ≠ 0x29 ∧ c.code ≠ 0x45 ∧ c.code ≠ 0x46
    (∀ i code : Byte, (knownCode code.toNat = true ↔ known code.toNat) ∧ (¬known code.toNat → got code i = none)) ∧
    (∀ (cs : List Change) (c : Change), (∀ x ∈ cs, free x) → free c →
      newSettings (cs ++ [c]) cfg =
        (newSettings cs cfg).bind fun x => (newSettings [c] x.1).map fun y => (y.1, x.2 || y.2)) ∧
    (∀ i : Byte,
      got 0x01 i = (within 20 1000 fun n => acct { cfg.acct with cNom := n }) ∧
      got 0x02 i =
        some
          (let c := if v = 0 then Chemistry.lead else .lithium
          if c = cfg.acct.chemistry then cfg
          else acct { cfg.acct with
            chemistry := c, eta := if v = 0 then 230 else 253, vFull := if v = 0 then 14000 else 13900 },
            decide (1 < v)) ∧
      got 0x03 i = (within 200 256 fun n => acct { cfg.acct with eta := n }) ∧
      got 0x04 i = (within 13000 15000 fun n => acct { cfg.acct with vFull := n }) ∧
      got 0x05 i = (within 50 600 fun n => acct { cfg.acct with reservePm := n }) ∧
      got 0x06 i = (within 1000 30000 fun n => acct { cfg.acct with iMax := n }) ∧
      got 0x08 i = (onOff fun b => charge { cfg.charge with solarEnable := b }) ∧
      got 0x09 i = (onOff fun b => charge { cfg.charge with altEnable := b }) ∧
      got 0x0A i = (within 0 60 fun n => charge { cfg.charge with altDelay := n }) ∧
      got 0x0B i = (within 500 990 fun n => charge { cfg.charge with holdRelease := n }) ∧
      got 0x18 i = (within 1 15 fun n => weights { cfg.alloc.weights with c2 := n }) ∧
      got 0x19 i = (within 1 15 fun n => weights { cfg.alloc.weights with c1 := n }) ∧
      got 0x1A i = (within 1 15 fun n => weights { cfg.alloc.weights with c0 := n }) ∧
      got 0x1B i = (within 1 600 fun n => { cfg with alloc := { cfg.alloc with restoreDelay := n } })) ∧
    (∀ i : Byte,
      got 0x28 i =
        (if min 1000 v = cfg.water.freshFull then none
        else within 0 1000 fun n => water { cfg.water with freshEmpty := n }) ∧
      got 0x29 i =
        (if min 1000 v = cfg.water.freshEmpty then none
        else within 0 1000 fun n => water { cfg.water with freshFull := n }) ∧
      (∀ w : BitVec 24,
        newSettings [{ code := 0x28, index := i, value := value }, { code := 0x29, index := i, value := w }] cfg =
          if min 1000 v = min 1000 w.toNat then none
          else some (water { cfg.water with freshEmpty := min 1000 v, freshFull := min 1000 w.toNat },
            decide (1000 < v ∨ 1000 < w.toNat))) ∧
      got 0x2A i = (onOff fun b => water { cfg.water with greyInhibit := b }) ∧
      got 0x2B i = (within 10 600 fun n => water { cfg.water with dryLimit := n }) ∧
      got 0x30 i = (within 1 60 fun n => motion { cfg.motion with tFull := { cfg.motion.tFull with awning := n } }) ∧
      got 0x31 i = (within 1 60 fun n => motion { cfg.motion with tFull := { cfg.motion.tFull with step := n } }) ∧
      got 0x32 i =
        (within 100 3000 fun n => motion { cfg.motion with stall := { cfg.motion.stall with awning := n } }) ∧
      got 0x33 i = (within 100 3000 fun n => motion { cfg.motion with stall := { cfg.motion.stall with step := n } }) ∧
      got 0x34 i = (within 10500 13500 fun n => motion { cfg.motion with motionMin := n }) ∧
      got 0x35 i = (onOff fun b => motion { cfg.motion with stowOnIgn := b }) ∧
      got 0x36 i = (within 1 100 fun n => motion { cfg.motion with windFactor := n }) ∧
      got 0x37 i = (within 10 120 fun n => motion { cfg.motion with windLimit := n }) ∧
      got 0x39 i = plain (light { cfg.light with courtesySet := value.extractLsb' 0 8 }) ∧
      got 0x3A i = (within 0 1000 fun n => light { cfg.light with courtesyLevel := n }) ∧
      got 0x3B i = (within 10 600 fun n => light { cfg.light with courtesyTime := n }) ∧
      (∀ n : Fin 8, n.val = v → got 0x3C i = plain (light { cfg.light with stepLight := n })) ∧
      (7 < v → got 0x3C i = none) ∧
      got 0x51 i = plain { cfg with faultMask := value.extractLsb' 0 22 } ∧
      got 0x58 i = (within 0 63 fun n => { cfg with debounceButtons := n }) ∧
      got 0x59 i = (within 0 63 fun n => { cfg with debounceOthers := n })) ∧
    (∀ (i : Byte) (r : RecNo), i.toNat = r.val →
      let x := tget cfg.recs r
      let put := fun (y : RecSettings) => { cfg with recs := tset cfg.recs r y }
      let register := (3 ≤ r.val ∧ r.val ≤ 9) ∨ (11 ≤ r.val ∧ r.val ≤ 19)
      got 0x10 i = (if r = 2 ∨ r = 20 ∨ r = 21 then none else within 0 3 fun n => put { x with cls := n }) ∧
      got 0x11 i = (within 0 2000 fun n => put { x with rated := n }) ∧
      got 0x12 i = (if r = 1 then within 0 3000 fun n => put { x with surge := n } else none) ∧
      (¬register → got 0x13 i = none ∧ got 0x14 i = none) ∧
      (register →
        got 0x13 i =
            (within 0 4 fun n =>
              put { x with zone := ([.living, .sleep, .cab, .exterior, .service] : List Zone).getD n .living }) ∧
          got 0x14 i =
            within 0 1000 fun n => put { x with rest := if 12 ≤ r.val ∨ n = 0 then n else 1000 }) ∧
      got 0x15 i =
        if r.val < 20 then within 0 1 fun n => put { x with policy := if n = 0 then .auto else .manual } else none) ∧
    (∀ (i : Byte) (j : Fin 8), i.toNat = j.val →
      let x := tget cfg.slots j
      let put := fun (y : Slot) => { cfg with slots := tset cfg.slots j y }
      let pairs := tget cfg.light.scenes j
      let scene := fun (ps : List ScenePair) => light { cfg.light with scenes := tset cfg.light.scenes j ps }
      let level := min 1000 (v % 2048)
      let channel := v / 4096 % 16
      let action := v / 65536 % 4
      got 0x20 i = (onOff fun b => put { x with enabled := b }) ∧
      (∀ c : Condition, c.no = v → got 0x21 i = plain (put { x with condition := c })) ∧ (7 < v → got 0x21 i = none) ∧
      (∀ r : RecNo, r.val = v → 3 ≤ v → v ≤ 19 → got 0x22 i = plain (put { x with target := r })) ∧
      (v < 3 ∨ 19 < v → got 0x22 i = none) ∧
      got 0x23 i =
        (if v = 0 then plain (put { x with action := .force })
        else if v = 1 then plain (put { x with action := .cap }) else none) ∧
      got 0x24 i = (within 0 1000 fun n => put { x with level := n }) ∧
      got 0x38 i = (within 1 1000 fun n => light { cfg.light with fade := tset cfg.light.fade j n }) ∧
      (∀ n : Fin 8, n.val = channel → action = 0 → got 0x3D i =
        some
          (scene
            (if n ∈ pairs.map (·.channel) then
              pairs.map fun p => if p.channel = n then { p with level := level } else p
            else pairs ++ [{ channel := n, level := level }]),
            decide (1000 < v % 2048))) ∧
      (∀ n : Fin 8, n.val = channel → action = 1 →
        got 0x3D i = plain (scene (pairs.filter fun p => p.channel != n))) ∧
      (action = 2 → got 0x3D i = plain (scene [])) ∧
      (action = 3 ∨ action < 2 ∧ 7 < channel → got 0x3D i = none)) ∧
    (∀ (i : Byte) (l : Link), i.toNat = l.no →
      let x := cfg.links.get l
      let put := fun (y : LinkSettings) => { cfg with links := cfg.links.set l y }
      got 0x40 i =
        (within 0 2 fun n => put { x with standing := ([.off, .watch, .act] : List Standing).getD n .off }) ∧
      got 0x41 i = plain (put { x with membership := value.extractLsb' 0 5 }) ∧
      got 0x42 i = (within 0 3 fun n => put { x with ceiling := n }) ∧
      got 0x43 i = (onOff fun b => put { x with configRight := b }) ∧
      got 0x44 i = (onOff fun b => put { x with silenceMode := if b then .keepalive else .auto }) ∧
      got 0x45 i =
        (if 10 ≤ v then none
        else some (put { x with shortN := v, longN := if x.longN ≤ v then v + 1 else x.longN }, decide (x.longN ≤ v))) ∧
      got 0x46 i =
        some (put { x with longN := max (x.shortN + 1) (min 10 v) },
          decide (v ≤ x.shortN ∨ 10 < v)) ∧
      got 0x47 i = plain (put { x with eventMask := value.extractLsb' 0 16 &&& 0x03FF }) ∧
      got 0x48 i = plain (put { x with echo := value.extractLsb' 0 5 }) ∧
      got 0x49 i = if l = .c then within 0 15 fun n => { cfg with node := n } else none) ∧
    (∀ (i : Byte) (k : Fin 22), i.toNat = k.val →
      got 0x50 i =
        within 0 1 fun n => { cfg with severity := tset cfg.severity k (if n = 0 then .notice else .severe) }) ∧
    ∀ i code : Byte,
      (21 < i.toNat → 0x10 ≤ code.toNat ∧ code.toNat ≤ 0x15 ∨ code = 0x50 → got code i = none) ∧
        (7 < i.toNat → 0x20 ≤ code.toNat ∧ code.toNat ≤ 0x24 ∨ code = 0x38 ∨ code = 0x3D → got code i = none) ∧
        (2 < i.toNat → 0x40 ≤ code.toNat ∧ code.toNat ≤ 0x49 → got code i = none)

/-- R49, R51, R80, R93: a CLEAR of a load record, and the LOADS group reset, which returns every tripped or waiting record
to NORMAL and makes every record a GRANTED joiner. Granted levels stay until the next pass, and no incident is raised
(R171) where what is off was granted nothing. -/
def Obligations.ClearsReturnRecordsToNormal : Prop :=
  ∀ (l : Link) (tag : Byte) (s : State), Ready l s →
    (∀ (index : Byte) (r : RecNo), index.toNat = r.val → r.val < 20 → s.admits l (s.cfg r).zone = true →
      let x := s.row r
      let off := x.prot = .tripped ∨ x.prot = .retryWait
      ∃ t, exec (.clearLoadRecord l tag index) s = .next t ∧ Replied l 0x0B tag .ok [] s t ∧ LinksKept l 0x0B s t ∧
        (off → OnEveryLink .trip t ∧ t.tab = tset s.tab r { x with
          prot := .normal, bucket := 0, retryCount := 0, retryTimer := 0, quiet := 0, join := true }) ∧
        (x.prot = .normal → t.tab = tset s.tab r { x with retryCount := 0, quiet := 0 }) ∧
        (x.prot = .unprotected → t.tab = s.tab) ∧
        (¬off ∨ x.granted = 0 → t.test = s.test ∧ t.log = s.log) ∧ (r.val < 12 → t.light = s.light) ∧
        t = { s with
          tab := t.tab, test := t.test, light := t.light, links := t.links, can := t.can, log := t.log }) ∧
    ((s.set.links.get l).configRight = true →
      ∃ t, exec (.resetLoads l tag) s = .next t ∧ Replied l 0x0C tag .ok [] s t ∧ LinksKept l 0x0C s t ∧
        (∀ r : RecNo, 20 ≤ r.val → t.row r = { s.row r with alloc := .granted, join := true }) ∧
        (∀ r : RecNo, r.val < 20 → t.row r = { s.row r with
          prot := if (s.row r).prot = .unprotected then .unprotected else .normal
          bucket := 0, retryCount := 0, retryTimer := 0, quiet := 0, alloc := .granted, join := true }) ∧
        (∀ c, t.alloc.cls.get c = { s.alloc.cls.get c with dim := 1000, cand := .none, counter := 0 }) ∧
        ((∃ r : RecNo, r.val < 20 ∧ ((s.row r).prot = .tripped ∨ (s.row r).prot = .retryWait)) → OnEveryLink .trip t) ∧
        ((∃ r, (s.row r).alloc = .shed) ∨ (∃ c, (s.alloc.cls.get c).dim ≠ 1000) → OnEveryLink .grant t) ∧
        (s.clim.heldDrive = none →
          (∀ r, (s.row r).alloc = .shed ∨ (s.row r).prot = .tripped ∨ (s.row r).prot = .retryWait → (s.row r).granted = 0) →
          t.test = s.test ∧ t.log = s.log) ∧
        t = { s with
          tab := t.tab, test := t.test, alloc := { s.alloc with cls := t.alloc.cls }, light := t.light
          links := t.links, can := t.can, log := t.log })

/-- R166: a CLEAR of an incident group clears status and count of its kinds, but for SETTINGS_LOAD, and FAULT_N is formed
again; a group above 5 is refused; a CLEAR of the capture empties it. -/
def Obligations.ClearsOfTheLog : Prop :=
  ∀ (l : Link) (tag : Byte) (s : State), Ready l s →
    (∀ (index : Byte) (a b : Nat),
      (index.toNat, a, b) ∈ [(0, 0, 2), (1, 3, 5), (2, 6, 8), (3, 9, 13), (4, 14, 17), (5, 18, 21)] →
      ∃ t, exec (.clearIncidentGroup l tag index) s = .next t ∧
        (∀ k : Fin 22, a ≤ k.val ∧ k.val ≤ b ∧ k ≠ Incident.settingsLoad.no →
          tget t.log.status k = false ∧ tget t.log.count k = 0) ∧
        (∀ k : Fin 22, ¬(a ≤ k.val ∧ k.val ≤ b ∧ k ≠ Incident.settingsLoad.no) →
          tget t.log.status k = tget s.log.status k ∧ tget t.log.count k = tget s.log.count k) ∧
        FaultFormed t ∧ Replied l 0x0B tag .ok [] s t ∧
        (∀ k, t.lk k = { afterFrame l 0x0B s k with sent := (t.lk k).sent }) ∧
        t = { s with
          log := { s.log with status := t.log.status, count := t.log.count, faultN := t.log.faultN }
          links := t.links, can := t.can }) ∧
    (∀ index : Byte, 5 < index.toNat →
      ∃ t, exec (.clearIncidentGroup l tag index) s = .next t ∧ Replied l 0x0B tag .badValue [] s t ∧
        (∀ k, t.lk k = { afterFrame l 0x0B s k with sent := (t.lk k).sent }) ∧
        t = { s with links := t.links, can := t.can }) ∧
    ∃ t, exec (.clearCapture l tag) s = .next t ∧ Replied l 0x0B tag .ok [] s t ∧
      (∀ k, t.lk k = { afterFrame l 0x0B s k with sent := (t.lk k).sent }) ∧
      t = { s with log := { s.log with capture := none }, links := t.links, can := t.can }
end

