-- ==== Sys2Proof/Laws/State.lean ====
section
/-!
SUPPORT. Reading back what an update of the state wrote: members of indexed groups, tables, links, and what the
operations of events, attention and incidents leave unchanged.
-/

namespace Sys2Proof.Machine

/-! ### Indexed groups and tables -/

@[simp] theorem PerLink.get_set {α : Type} (x : PerLink α) (l k : Link) (v : α) :
    (x.set l v).get k = if k = l then v else x.get k := by cases l <;> cases k <;> rfl

@[simp] theorem PerDevice.get_set {α : Type} (x : PerDevice α) (d e : Device) (v : α) :
    (x.set d v).get e = if e = d then v else x.get e := by cases d <;> cases e <;> rfl

@[simp] theorem PerClass.get_set {α : Type} (x : PerClass α) (c e : LoadClass) (v : α) :
    (x.set c v).get e = if e = c then v else x.get e := by cases c <;> cases e <;> rfl

theorem PerLink.ext_get {α : Type} {x y : PerLink α} (h : ∀ l, x.get l = y.get l) : x = y := by
  cases x; cases y; have := h .c; have := h .p; have := h .t; simp_all [PerLink.get]

theorem PerDevice.ext_get {α : Type} {x y : PerDevice α} (h : ∀ l, x.get l = y.get l) : x = y := by
  cases x; cases y; have := h .awning; have := h .step; simp_all [PerDevice.get]

theorem tget_tset {α : Type} {n : Nat} (v : Vector α n) (i j : Fin n) (x : α) :
    tget (tset v i x) j = if j = i then x else tget v j := by
  unfold tget tset
  rw [Vector.getElem_set]
  by_cases h : j = i
  · subst h; simp
  · have : i.val ≠ j.val := fun e => h (Fin.ext e.symm)
    simp [h, this]

@[simp] theorem tget_tset_self {α : Type} {n : Nat} (v : Vector α n) (i : Fin n) (x : α) : tget (tset v i x) i = x := by
  simp [tget_tset]

theorem tget_tset_ne {α : Type} {n : Nat} (v : Vector α n) {i j : Fin n} (x : α) (h : j ≠ i) :
    tget (tset v i x) j = tget v j := by simp [tget_tset, h]

theorem tset_self {α : Type} {n : Nat} (v : Vector α n) (i : Fin n) : tset v i (tget v i) = v := by
  unfold tset tget; simp

/-- What every step of a fold keeps, the fold keeps. -/
theorem foldl_keeps {σ β γ : Type} (g : σ → γ) (f : σ → β → σ) (h : ∀ s b, g (f s b) = g s) (l : List β) (s : σ) :
    g (l.foldl f s) = g s := by
  induction l generalizing s with
  | nil => rfl
  | cons b l ih => rw [List.foldl_cons, ih, h]

/-- What every step of a fold over the members of a list keeps, the fold keeps. -/
theorem foldl_keeps_mem {σ β γ : Type} (g : σ → γ) (f : σ → β → σ) (l : List β)
    (h : ∀ b ∈ l, ∀ s, g (f s b) = g s) (s : σ) : g (l.foldl f s) = g s := by
  induction l generalizing s with
  | nil => rfl
  | cons b l ih =>
    rw [List.foldl_cons, ih fun c hc => h c (List.mem_cons_of_mem _ hc), h b (List.mem_cons_self ..)]

/-- A property that every step of a fold over the members of a list keeps holds after the fold. -/
theorem foldl_inv {σ β : Type} (P : σ → Prop) (f : σ → β → σ) (l : List β) (h : ∀ b ∈ l, ∀ s, P s → P (f s b))
    (s : σ) (hs : P s) : P (l.foldl f s) := by
  induction l generalizing s with
  | nil => exact hs
  | cons b l ih =>
    exact ih (fun c hc => h c (List.mem_cons_of_mem _ hc)) _ (h b (List.mem_cons_self ..) s hs)

/-! ### What the updates of one block leave -/

@[simp] theorem State.modLink_frame (l : Link) (f : LinkState → LinkState) (s : State) :
    (s.modLink l f).pending = s.pending ∧ (s.modLink l f).phase = s.phase ∧
      (s.modLink l f).mu = s.mu ∧ (s.modLink l f).prev = s.prev ∧
      (s.modLink l f).acct = s.acct ∧ (s.modLink l f).chg = s.chg ∧
      (s.modLink l f).set = s.set ∧ (s.modLink l f).inForce = s.inForce ∧ (s.modLink l f).tab = s.tab ∧
      (s.modLink l f).test = s.test ∧ (s.modLink l f).reg = s.reg ∧
      (s.modLink l f).alloc = s.alloc ∧ (s.modLink l f).clim = s.clim ∧
      (s.modLink l f).water = s.water ∧ (s.modLink l f).mot = s.mot ∧
      (s.modLink l f).wind = s.wind ∧ (s.modLink l f).light = s.light ∧
      (s.modLink l f).can = s.can ∧ (s.modLink l f).vehicle = s.vehicle ∧
      (s.modLink l f).log = s.log ∧ (s.modLink l f).store = s.store ∧
      (s.modLink l f).handling = s.handling := by
  exact ⟨rfl, rfl, rfl, rfl, rfl, rfl, rfl, rfl, rfl, rfl, rfl, rfl, rfl, rfl, rfl, rfl, rfl, rfl, rfl, rfl, rfl, rfl⟩
@[simp] theorem State.raiseOn_frame (l : Link) (e : Event) (s : State) :
    (s.raiseOn l e).pending = s.pending ∧ (s.raiseOn l e).phase = s.phase ∧
      (s.raiseOn l e).mu = s.mu ∧ (s.raiseOn l e).prev = s.prev ∧
      (s.raiseOn l e).acct = s.acct ∧ (s.raiseOn l e).chg = s.chg ∧
      (s.raiseOn l e).set = s.set ∧ (s.raiseOn l e).inForce = s.inForce ∧ (s.raiseOn l e).tab = s.tab ∧
      (s.raiseOn l e).test = s.test ∧ (s.raiseOn l e).reg = s.reg ∧
      (s.raiseOn l e).alloc = s.alloc ∧ (s.raiseOn l e).clim = s.clim ∧
      (s.raiseOn l e).water = s.water ∧ (s.raiseOn l e).mot = s.mot ∧
      (s.raiseOn l e).wind = s.wind ∧ (s.raiseOn l e).light = s.light ∧
      (s.raiseOn l e).can = s.can ∧ (s.raiseOn l e).vehicle = s.vehicle ∧
      (s.raiseOn l e).log = s.log ∧ (s.raiseOn l e).store = s.store ∧
      (s.raiseOn l e).handling = s.handling := by
  exact ⟨rfl, rfl, rfl, rfl, rfl, rfl, rfl, rfl, rfl, rfl, rfl, rfl, rfl, rfl, rfl, rfl, rfl, rfl, rfl, rfl, rfl, rfl⟩
@[simp] theorem State.raise_frame (e : Event) (s : State) :
    (s.raise e).pending = s.pending ∧ (s.raise e).phase = s.phase ∧
      (s.raise e).mu = s.mu ∧ (s.raise e).prev = s.prev ∧
      (s.raise e).acct = s.acct ∧ (s.raise e).chg = s.chg ∧
      (s.raise e).set = s.set ∧ (s.raise e).inForce = s.inForce ∧ (s.raise e).tab = s.tab ∧
      (s.raise e).test = s.test ∧ (s.raise e).reg = s.reg ∧
      (s.raise e).alloc = s.alloc ∧ (s.raise e).clim = s.clim ∧
      (s.raise e).water = s.water ∧ (s.raise e).mot = s.mot ∧
      (s.raise e).wind = s.wind ∧ (s.raise e).light = s.light ∧
      (s.raise e).can = s.can ∧ (s.raise e).vehicle = s.vehicle ∧
      (s.raise e).log = s.log ∧ (s.raise e).store = s.store ∧
      (s.raise e).handling = s.handling := by
  simp [State.raise]
@[simp] theorem State.raiseIf_frame (b : Bool) (e : Event) (s : State) :
    (s.raiseIf b e).pending = s.pending ∧ (s.raiseIf b e).phase = s.phase ∧
      (s.raiseIf b e).mu = s.mu ∧ (s.raiseIf b e).prev = s.prev ∧
      (s.raiseIf b e).acct = s.acct ∧ (s.raiseIf b e).chg = s.chg ∧
      (s.raiseIf b e).set = s.set ∧ (s.raiseIf b e).inForce = s.inForce ∧ (s.raiseIf b e).tab = s.tab ∧
      (s.raiseIf b e).test = s.test ∧ (s.raiseIf b e).reg = s.reg ∧
      (s.raiseIf b e).alloc = s.alloc ∧ (s.raiseIf b e).clim = s.clim ∧
      (s.raiseIf b e).water = s.water ∧ (s.raiseIf b e).mot = s.mot ∧
      (s.raiseIf b e).wind = s.wind ∧ (s.raiseIf b e).light = s.light ∧
      (s.raiseIf b e).can = s.can ∧ (s.raiseIf b e).vehicle = s.vehicle ∧
      (s.raiseIf b e).log = s.log ∧ (s.raiseIf b e).store = s.store ∧
      (s.raiseIf b e).handling = s.handling := by
  cases b <;> simp [State.raiseIf]
@[simp] theorem State.raiseOthers_frame (l : Link) (s : State) :
    (s.raiseOthers l).pending = s.pending ∧ (s.raiseOthers l).phase = s.phase ∧
      (s.raiseOthers l).mu = s.mu ∧ (s.raiseOthers l).prev = s.prev ∧
      (s.raiseOthers l).acct = s.acct ∧ (s.raiseOthers l).chg = s.chg ∧
      (s.raiseOthers l).set = s.set ∧ (s.raiseOthers l).inForce = s.inForce ∧ (s.raiseOthers l).tab = s.tab ∧
      (s.raiseOthers l).test = s.test ∧ (s.raiseOthers l).reg = s.reg ∧
      (s.raiseOthers l).alloc = s.alloc ∧ (s.raiseOthers l).clim = s.clim ∧
      (s.raiseOthers l).water = s.water ∧ (s.raiseOthers l).mot = s.mot ∧
      (s.raiseOthers l).wind = s.wind ∧ (s.raiseOthers l).light = s.light ∧
      (s.raiseOthers l).can = s.can ∧ (s.raiseOthers l).vehicle = s.vehicle ∧
      (s.raiseOthers l).log = s.log ∧ (s.raiseOthers l).store = s.store ∧
      (s.raiseOthers l).handling = s.handling := by
  cases l <;> simp [State.raiseOthers]
@[simp] theorem State.formFaultN_frame (s : State) :
    (s.formFaultN).pending = s.pending ∧ (s.formFaultN).phase = s.phase ∧
      (s.formFaultN).mu = s.mu ∧ (s.formFaultN).prev = s.prev ∧
      (s.formFaultN).acct = s.acct ∧ (s.formFaultN).chg = s.chg ∧
      (s.formFaultN).set = s.set ∧ (s.formFaultN).inForce = s.inForce ∧ (s.formFaultN).tab = s.tab ∧
      (s.formFaultN).test = s.test ∧ (s.formFaultN).reg = s.reg ∧
      (s.formFaultN).alloc = s.alloc ∧ (s.formFaultN).clim = s.clim ∧
      (s.formFaultN).water = s.water ∧ (s.formFaultN).mot = s.mot ∧
      (s.formFaultN).wind = s.wind ∧ (s.formFaultN).light = s.light ∧
      (s.formFaultN).links = s.links ∧ (s.formFaultN).can = s.can ∧
      (s.formFaultN).vehicle = s.vehicle ∧ (s.formFaultN).store = s.store ∧
      (s.formFaultN).handling = s.handling := by
  exact ⟨rfl, rfl, rfl, rfl, rfl, rfl, rfl, rfl, rfl, rfl, rfl, rfl, rfl, rfl, rfl, rfl, rfl, rfl, rfl, rfl, rfl, rfl⟩
@[simp] theorem State.raiseWith_frame (k : Incident) (b : Block) (o : CapOrigin) (g : Option Nat) (bs : Option (List Byte)) (s : State) :
    (s.raiseWith k b o g bs).pending = s.pending ∧ (s.raiseWith k b o g bs).phase = s.phase ∧
      (s.raiseWith k b o g bs).mu = s.mu ∧ (s.raiseWith k b o g bs).prev = s.prev ∧
      (s.raiseWith k b o g bs).acct = s.acct ∧ (s.raiseWith k b o g bs).chg = s.chg ∧
      (s.raiseWith k b o g bs).set = s.set ∧ (s.raiseWith k b o g bs).inForce = s.inForce ∧ (s.raiseWith k b o g bs).tab = s.tab ∧
      (s.raiseWith k b o g bs).test = s.test ∧ (s.raiseWith k b o g bs).reg = s.reg ∧
      (s.raiseWith k b o g bs).alloc = s.alloc ∧ (s.raiseWith k b o g bs).clim = s.clim ∧
      (s.raiseWith k b o g bs).water = s.water ∧ (s.raiseWith k b o g bs).mot = s.mot ∧
      (s.raiseWith k b o g bs).wind = s.wind ∧ (s.raiseWith k b o g bs).light = s.light ∧
      (s.raiseWith k b o g bs).can = s.can ∧ (s.raiseWith k b o g bs).vehicle = s.vehicle ∧
      (s.raiseWith k b o g bs).store = s.store ∧ (s.raiseWith k b o g bs).handling = s.handling := by
  simp [State.raiseWith]
@[simp] theorem State.raiseFrom_frame (k : Incident) (b : Block) (o : CapOrigin) (g : Option Nat) (s : State) :
    (s.raiseFrom k b o g).pending = s.pending ∧ (s.raiseFrom k b o g).phase = s.phase ∧
      (s.raiseFrom k b o g).mu = s.mu ∧ (s.raiseFrom k b o g).prev = s.prev ∧
      (s.raiseFrom k b o g).acct = s.acct ∧ (s.raiseFrom k b o g).chg = s.chg ∧
      (s.raiseFrom k b o g).set = s.set ∧ (s.raiseFrom k b o g).inForce = s.inForce ∧ (s.raiseFrom k b o g).tab = s.tab ∧
      (s.raiseFrom k b o g).test = s.test ∧ (s.raiseFrom k b o g).reg = s.reg ∧
      (s.raiseFrom k b o g).alloc = s.alloc ∧ (s.raiseFrom k b o g).clim = s.clim ∧
      (s.raiseFrom k b o g).water = s.water ∧ (s.raiseFrom k b o g).mot = s.mot ∧
      (s.raiseFrom k b o g).wind = s.wind ∧ (s.raiseFrom k b o g).light = s.light ∧
      (s.raiseFrom k b o g).can = s.can ∧ (s.raiseFrom k b o g).vehicle = s.vehicle ∧
      (s.raiseFrom k b o g).store = s.store ∧ (s.raiseFrom k b o g).handling = s.handling := by
  unfold State.raiseFrom; split <;> simp
@[simp] theorem State.raiseIncident_frame (k : Incident) (b : Block) (g : Option Nat) (s : State) :
    (s.raiseIncident k b g).pending = s.pending ∧ (s.raiseIncident k b g).phase = s.phase ∧
      (s.raiseIncident k b g).mu = s.mu ∧ (s.raiseIncident k b g).prev = s.prev ∧
      (s.raiseIncident k b g).acct = s.acct ∧ (s.raiseIncident k b g).chg = s.chg ∧
      (s.raiseIncident k b g).set = s.set ∧ (s.raiseIncident k b g).inForce = s.inForce ∧ (s.raiseIncident k b g).tab = s.tab ∧
      (s.raiseIncident k b g).test = s.test ∧ (s.raiseIncident k b g).reg = s.reg ∧
      (s.raiseIncident k b g).alloc = s.alloc ∧ (s.raiseIncident k b g).clim = s.clim ∧
      (s.raiseIncident k b g).water = s.water ∧ (s.raiseIncident k b g).mot = s.mot ∧
      (s.raiseIncident k b g).wind = s.wind ∧ (s.raiseIncident k b g).light = s.light ∧
      (s.raiseIncident k b g).can = s.can ∧ (s.raiseIncident k b g).vehicle = s.vehicle ∧
      (s.raiseIncident k b g).store = s.store ∧ (s.raiseIncident k b g).handling = s.handling := by
  simp [State.raiseIncident]
/-! ### The readers of single members, unfolded -/

@[simp] theorem State.lk_eq (s : State) (l : Link) : s.lk l = s.links.get l := rfl

@[simp] theorem State.isRun_eq (s : State) : s.isRun = (s.phase == .run) := rfl

@[simp] theorem State.awake_eq (s : State) : s.awake = (s.phase != .resetLow) := rfl

/-! ### One link -/

theorem State.modLink_lk (l k : Link) (f : LinkState → LinkState) (s : State) :
    (s.modLink l f).links.get k =
      if k = l then
        (f (s.links.get l)).announce l s.can.node ((s.links.get l).attention s.isRun)
          ((f (s.links.get l)).attention s.isRun)
      else s.links.get k := by
  unfold State.modLink; simp

/-- Away from its output record, a link is what the change makes it. -/
theorem LinkState.announce_frame (l : Link) (n : Nat) (a b : Bool) (k : LinkState) :
    k.announce l n a b = { k with sent := (k.announce l n a b).sent } := rfl

@[simp] theorem LinkState.announce_fields (l : Link) (n : Nat) (a b : Bool) (k : LinkState) :
    (k.announce l n a b).live = k.live ∧ (k.announce l n a b).timer = k.timer ∧
      (k.announce l n a b).shortTaken = k.shortTaken ∧ (k.announce l n a b).longTaken = k.longTaken ∧
      (k.announce l n a b).shortN = k.shortN ∧ (k.announce l n a b).longN = k.longN ∧
      (k.announce l n a b).rxQueue = k.rxQueue ∧ (k.announce l n a b).part = k.part ∧
      (k.announce l n a b).batch = k.batch ∧ (k.announce l n a b).snapshot = k.snapshot ∧
      (k.announce l n a b).pending = k.pending ∧ (k.announce l n a b).mask = k.mask ∧
      (k.announce l n a b).echo = k.echo := ⟨rfl, rfl, rfl, rfl, rfl, rfl, rfl, rfl, rfl, rfl, rfl, rfl, rfl⟩

/-- Only link C announces. -/
theorem LinkState.announce_sent_uart {l : Link} (h : l ≠ .c) (n : Nat) (a b : Bool) (k : LinkState) :
    (k.announce l n a b).sent = k.sent := by simp [LinkState.announce, h]

theorem State.raiseOn_lk (l k : Link) (e : Event) (s : State) :
    (s.raiseOn l e).links.get k =
      { s.links.get k with
        pending :=
          if k = l ∧ s.phase ≠ .resetLow then (s.links.get k).pending ||| e.bit else (s.links.get k).pending
        sent := ((s.raiseOn l e).links.get k).sent } := by
  unfold State.raiseOn
  by_cases h : k = l <;> simp [State.modLink_lk, h, LinkState.announce] <;> rfl

@[simp] theorem State.raiseOn_lk_fields (l : Link) (e : Event) (s : State) (k : Link) :
    ((s.raiseOn l e).links.get k).live = (s.links.get k).live ∧ ((s.raiseOn l e).links.get k).timer = (s.links.get k).timer ∧
      ((s.raiseOn l e).links.get k).shortTaken = (s.links.get k).shortTaken ∧ ((s.raiseOn l e).links.get k).longTaken = (s.links.get k).longTaken ∧
      ((s.raiseOn l e).links.get k).shortN = (s.links.get k).shortN ∧ ((s.raiseOn l e).links.get k).longN = (s.links.get k).longN ∧
      ((s.raiseOn l e).links.get k).rxQueue = (s.links.get k).rxQueue ∧ ((s.raiseOn l e).links.get k).part = (s.links.get k).part ∧
      ((s.raiseOn l e).links.get k).batch = (s.links.get k).batch ∧ ((s.raiseOn l e).links.get k).snapshot = (s.links.get k).snapshot ∧
      ((s.raiseOn l e).links.get k).mask = (s.links.get k).mask ∧ ((s.raiseOn l e).links.get k).echo = (s.links.get k).echo := by
  rw [State.raiseOn_lk]; simp

@[simp] theorem State.raiseOn_uart (l : Link) (e : Event) (s : State) :
    ((s.raiseOn l e).links.get .p).sent = (s.links.get .p).sent ∧
      ((s.raiseOn l e).links.get .t).sent = (s.links.get .t).sent := by
  cases l <;> simp [State.raiseOn, State.modLink_lk, LinkState.announce]

@[simp] theorem State.raise_lk_fields (e : Event) (s : State) (k : Link) :
    ((s.raise e).links.get k).live = (s.links.get k).live ∧ ((s.raise e).links.get k).timer = (s.links.get k).timer ∧
      ((s.raise e).links.get k).shortTaken = (s.links.get k).shortTaken ∧ ((s.raise e).links.get k).longTaken = (s.links.get k).longTaken ∧
      ((s.raise e).links.get k).shortN = (s.links.get k).shortN ∧ ((s.raise e).links.get k).longN = (s.links.get k).longN ∧
      ((s.raise e).links.get k).rxQueue = (s.links.get k).rxQueue ∧ ((s.raise e).links.get k).part = (s.links.get k).part ∧
      ((s.raise e).links.get k).batch = (s.links.get k).batch ∧ ((s.raise e).links.get k).snapshot = (s.links.get k).snapshot ∧
      ((s.raise e).links.get k).mask = (s.links.get k).mask ∧ ((s.raise e).links.get k).echo = (s.links.get k).echo := by
  simp [State.raise]

@[simp] theorem State.raise_uart (e : Event) (s : State) :
    ((s.raise e).links.get .p).sent = (s.links.get .p).sent ∧
      ((s.raise e).links.get .t).sent = (s.links.get .t).sent := by
  simp [State.raise]

@[simp] theorem State.raiseIf_lk_fields (b : Bool) (e : Event) (s : State) (k : Link) :
    ((s.raiseIf b e).links.get k).live = (s.links.get k).live ∧ ((s.raiseIf b e).links.get k).timer = (s.links.get k).timer ∧
      ((s.raiseIf b e).links.get k).shortTaken = (s.links.get k).shortTaken ∧ ((s.raiseIf b e).links.get k).longTaken = (s.links.get k).longTaken ∧
      ((s.raiseIf b e).links.get k).shortN = (s.links.get k).shortN ∧ ((s.raiseIf b e).links.get k).longN = (s.links.get k).longN ∧
      ((s.raiseIf b e).links.get k).rxQueue = (s.links.get k).rxQueue ∧ ((s.raiseIf b e).links.get k).part = (s.links.get k).part ∧
      ((s.raiseIf b e).links.get k).batch = (s.links.get k).batch ∧ ((s.raiseIf b e).links.get k).snapshot = (s.links.get k).snapshot ∧
      ((s.raiseIf b e).links.get k).mask = (s.links.get k).mask ∧ ((s.raiseIf b e).links.get k).echo = (s.links.get k).echo := by
  cases b <;> simp [State.raiseIf]

@[simp] theorem State.raiseIf_uart (b : Bool) (e : Event) (s : State) :
    ((s.raiseIf b e).links.get .p).sent = (s.links.get .p).sent ∧
      ((s.raiseIf b e).links.get .t).sent = (s.links.get .t).sent := by
  cases b <;> simp [State.raiseIf]

@[simp] theorem State.raiseOthers_lk_fields (l : Link) (s : State) (k : Link) :
    ((s.raiseOthers l).links.get k).live = (s.links.get k).live ∧ ((s.raiseOthers l).links.get k).timer = (s.links.get k).timer ∧
      ((s.raiseOthers l).links.get k).shortTaken = (s.links.get k).shortTaken ∧ ((s.raiseOthers l).links.get k).longTaken = (s.links.get k).longTaken ∧
      ((s.raiseOthers l).links.get k).shortN = (s.links.get k).shortN ∧ ((s.raiseOthers l).links.get k).longN = (s.links.get k).longN ∧
      ((s.raiseOthers l).links.get k).rxQueue = (s.links.get k).rxQueue ∧ ((s.raiseOthers l).links.get k).part = (s.links.get k).part ∧
      ((s.raiseOthers l).links.get k).batch = (s.links.get k).batch ∧ ((s.raiseOthers l).links.get k).snapshot = (s.links.get k).snapshot ∧
      ((s.raiseOthers l).links.get k).mask = (s.links.get k).mask ∧ ((s.raiseOthers l).links.get k).echo = (s.links.get k).echo := by
  cases l <;> simp [State.raiseOthers]

@[simp] theorem State.raiseOthers_uart (l : Link) (s : State) :
    ((s.raiseOthers l).links.get .p).sent = (s.links.get .p).sent ∧
      ((s.raiseOthers l).links.get .t).sent = (s.links.get .t).sent := by
  cases l <;> simp [State.raiseOthers]

@[simp] theorem State.raiseWith_lk_fields (i : Incident) (b : Block) (o : CapOrigin) (g : Option Nat) (bs : Option (List Byte)) (s : State) (k : Link) :
    ((s.raiseWith i b o g bs).links.get k).live = (s.links.get k).live ∧ ((s.raiseWith i b o g bs).links.get k).timer = (s.links.get k).timer ∧
      ((s.raiseWith i b o g bs).links.get k).shortTaken = (s.links.get k).shortTaken ∧ ((s.raiseWith i b o g bs).links.get k).longTaken = (s.links.get k).longTaken ∧
      ((s.raiseWith i b o g bs).links.get k).shortN = (s.links.get k).shortN ∧ ((s.raiseWith i b o g bs).links.get k).longN = (s.links.get k).longN ∧
      ((s.raiseWith i b o g bs).links.get k).rxQueue = (s.links.get k).rxQueue ∧ ((s.raiseWith i b o g bs).links.get k).part = (s.links.get k).part ∧
      ((s.raiseWith i b o g bs).links.get k).batch = (s.links.get k).batch ∧ ((s.raiseWith i b o g bs).links.get k).snapshot = (s.links.get k).snapshot ∧
      ((s.raiseWith i b o g bs).links.get k).mask = (s.links.get k).mask ∧ ((s.raiseWith i b o g bs).links.get k).echo = (s.links.get k).echo := by
  simp [State.raiseWith]

@[simp] theorem State.raiseWith_uart (i : Incident) (b : Block) (o : CapOrigin) (g : Option Nat) (bs : Option (List Byte)) (s : State) :
    ((s.raiseWith i b o g bs).links.get .p).sent = (s.links.get .p).sent ∧
      ((s.raiseWith i b o g bs).links.get .t).sent = (s.links.get .t).sent := by
  simp [State.raiseWith]

@[simp] theorem State.raiseFrom_lk_fields (i : Incident) (b : Block) (o : CapOrigin) (g : Option Nat) (s : State) (k : Link) :
    ((s.raiseFrom i b o g).links.get k).live = (s.links.get k).live ∧ ((s.raiseFrom i b o g).links.get k).timer = (s.links.get k).timer ∧
      ((s.raiseFrom i b o g).links.get k).shortTaken = (s.links.get k).shortTaken ∧ ((s.raiseFrom i b o g).links.get k).longTaken = (s.links.get k).longTaken ∧
      ((s.raiseFrom i b o g).links.get k).shortN = (s.links.get k).shortN ∧ ((s.raiseFrom i b o g).links.get k).longN = (s.links.get k).longN ∧
      ((s.raiseFrom i b o g).links.get k).rxQueue = (s.links.get k).rxQueue ∧ ((s.raiseFrom i b o g).links.get k).part = (s.links.get k).part ∧
      ((s.raiseFrom i b o g).links.get k).batch = (s.links.get k).batch ∧ ((s.raiseFrom i b o g).links.get k).snapshot = (s.links.get k).snapshot ∧
      ((s.raiseFrom i b o g).links.get k).mask = (s.links.get k).mask ∧ ((s.raiseFrom i b o g).links.get k).echo = (s.links.get k).echo := by
  unfold State.raiseFrom; split <;> simp

@[simp] theorem State.raiseFrom_uart (i : Incident) (b : Block) (o : CapOrigin) (g : Option Nat) (s : State) :
    ((s.raiseFrom i b o g).links.get .p).sent = (s.links.get .p).sent ∧
      ((s.raiseFrom i b o g).links.get .t).sent = (s.links.get .t).sent := by
  unfold State.raiseFrom; split <;> simp

@[simp] theorem State.raiseIncident_lk_fields (i : Incident) (b : Block) (g : Option Nat) (s : State) (k : Link) :
    ((s.raiseIncident i b g).links.get k).live = (s.links.get k).live ∧ ((s.raiseIncident i b g).links.get k).timer = (s.links.get k).timer ∧
      ((s.raiseIncident i b g).links.get k).shortTaken = (s.links.get k).shortTaken ∧ ((s.raiseIncident i b g).links.get k).longTaken = (s.links.get k).longTaken ∧
      ((s.raiseIncident i b g).links.get k).shortN = (s.links.get k).shortN ∧ ((s.raiseIncident i b g).links.get k).longN = (s.links.get k).longN ∧
      ((s.raiseIncident i b g).links.get k).rxQueue = (s.links.get k).rxQueue ∧ ((s.raiseIncident i b g).links.get k).part = (s.links.get k).part ∧
      ((s.raiseIncident i b g).links.get k).batch = (s.links.get k).batch ∧ ((s.raiseIncident i b g).links.get k).snapshot = (s.links.get k).snapshot ∧
      ((s.raiseIncident i b g).links.get k).mask = (s.links.get k).mask ∧ ((s.raiseIncident i b g).links.get k).echo = (s.links.get k).echo := by
  simp [State.raiseIncident]

@[simp] theorem State.raiseIncident_uart (i : Incident) (b : Block) (g : Option Nat) (s : State) :
    ((s.raiseIncident i b g).links.get .p).sent = (s.links.get .p).sent ∧
      ((s.raiseIncident i b g).links.get .t).sent = (s.links.get .t).sent := by
  simp [State.raiseIncident]

/-! ### Events and the log -/

theorem State.raiseOn_pending (l k : Link) (e : Event) (s : State) :
    ((s.raiseOn l e).links.get k).pending =
      if k = l ∧ s.phase ≠ .resetLow then (s.links.get k).pending ||| e.bit else (s.links.get k).pending := by
  rw [State.raiseOn_lk]

/-- The pending set of every link holds an event that was raised, unless RST_N is low. -/
@[simp] theorem State.raise_pending (e : Event) (s : State) (k : Link) :
    ((s.raise e).links.get k).pending =
      if s.phase ≠ .resetLow then (s.links.get k).pending ||| e.bit else (s.links.get k).pending := by
  unfold State.raise
  cases k <;> simp [State.raiseOn_pending]

/-- R163: status and count of a raised kind, the capture where none was taken; every other kind as before. -/
theorem State.raiseWith_log (i : Incident) (b : Block) (o : CapOrigin) (g : Option Nat) (bs : Option (List Byte))
    (s : State) :
    tget (s.raiseWith i b o g bs).log.status i.no = true ∧
      tget (s.raiseWith i b o g bs).log.count i.no = min 255 (tget s.log.count i.no + 1) ∧
      (∀ j, j ≠ i.no → tget (s.raiseWith i b o g bs).log.status j = tget s.log.status j ∧
        tget (s.raiseWith i b o g bs).log.count j = tget s.log.count j) ∧
      (s.raiseWith i b o g bs).log.capture.isSome = true ∧ (s.raiseWith i b o g bs).log.clock = s.log.clock ∧
      (s.log.capture.isSome = true → (s.raiseWith i b o g bs).log.capture = s.log.capture) := by
  have h : (s.raiseWith i b o g bs).log =
      { s.log.take { kind := i, block := b, origin := o, target := g, bytes := bs, socPm := s.acct.socPm
                     time := s.log.clock } with
        faultN := (s.raiseWith i b o g bs).log.faultN } := rfl
  rw [h]
  refine ⟨by simp [Log.take], by simp [Log.take], fun j hj => ?_, ?_, rfl, ?_⟩
  · simp [Log.take, tget_tset_ne _ _ hj]
  · simp only [Log.take]; split <;> rfl
  · intro hc
    simp only [Log.take]
    cases hh : s.log.capture with
    | none => simp [hh] at hc
    | some c => rfl

end Sys2Proof.Machine
end

