-- ==== Sys2Proof/Laws/Pipeline.lean ====
section
/-!
SUPPORT. What the operations of the load table can do: the fields each leaves, and the record it changes.
-/

namespace Sys2Proof.Machine

/-! ### Readers, unfolded -/

@[simp] theorem State.row_eq (s : State) (r : RecNo) : s.row r = tget s.tab r := rfl

@[simp] theorem State.cfg_eq (s : State) (r : RecNo) : s.cfg r = tget s.set.recs r := rfl

@[simp] theorem State.cut_eq (s : State) : s.cut = (s.acct.bank == .cut) := rfl

/-! ### Frames -/

@[simp] theorem State.abortTest_frame (r : RecNo) (s : State) :
    (s.abortTest r).pending = s.pending ∧ (s.abortTest r).phase = s.phase ∧
      (s.abortTest r).mu = s.mu ∧ (s.abortTest r).prev = s.prev ∧
      (s.abortTest r).acct = s.acct ∧ (s.abortTest r).chg = s.chg ∧
      (s.abortTest r).set = s.set ∧ (s.abortTest r).inForce = s.inForce ∧ (s.abortTest r).tab = s.tab ∧
      (s.abortTest r).reg = s.reg ∧ (s.abortTest r).alloc = s.alloc ∧
      (s.abortTest r).clim = s.clim ∧ (s.abortTest r).water = s.water ∧
      (s.abortTest r).mot = s.mot ∧ (s.abortTest r).wind = s.wind ∧
      (s.abortTest r).light = s.light ∧ (s.abortTest r).can = s.can ∧
      (s.abortTest r).vehicle = s.vehicle ∧ (s.abortTest r).store = s.store ∧
      (s.abortTest r).handling = s.handling := by
  unfold State.abortTest; split <;> (try split) <;> simp

@[simp] theorem State.noteDrive_frame (r : RecNo) (was : Bool) (s : State) :
    (s.noteDrive r was).pending = s.pending ∧ (s.noteDrive r was).phase = s.phase ∧
      (s.noteDrive r was).mu = s.mu ∧ (s.noteDrive r was).prev = s.prev ∧
      (s.noteDrive r was).acct = s.acct ∧ (s.noteDrive r was).chg = s.chg ∧
      (s.noteDrive r was).set = s.set ∧ (s.noteDrive r was).inForce = s.inForce ∧ (s.noteDrive r was).tab = s.tab ∧
      (s.noteDrive r was).reg = s.reg ∧ (s.noteDrive r was).alloc = s.alloc ∧
      (s.noteDrive r was).clim = s.clim ∧ (s.noteDrive r was).water = s.water ∧
      (s.noteDrive r was).wind = s.wind ∧ (s.noteDrive r was).can = s.can ∧
      (s.noteDrive r was).vehicle = s.vehicle ∧ (s.noteDrive r was).store = s.store ∧
      (s.noteDrive r was).handling = s.handling := by
  unfold State.noteDrive; split <;> (try split) <;> (try split) <;> simp

@[simp] theorem State.modRec_frame (r : RecNo) (f : LoadRec → LoadRec) (s : State) :
    (s.modRec r f).pending = s.pending ∧ (s.modRec r f).phase = s.phase ∧
      (s.modRec r f).mu = s.mu ∧ (s.modRec r f).prev = s.prev ∧
      (s.modRec r f).acct = s.acct ∧ (s.modRec r f).chg = s.chg ∧
      (s.modRec r f).set = s.set ∧ (s.modRec r f).inForce = s.inForce ∧ (s.modRec r f).reg = s.reg ∧
      (s.modRec r f).alloc = s.alloc ∧ (s.modRec r f).clim = s.clim ∧
      (s.modRec r f).water = s.water ∧ (s.modRec r f).wind = s.wind ∧
      (s.modRec r f).can = s.can ∧ (s.modRec r f).vehicle = s.vehicle ∧
      (s.modRec r f).store = s.store ∧ (s.modRec r f).handling = s.handling := by
  simp [State.modRec]

/-- A motor's drive touches nothing but its controller's rest count and last direction. -/
theorem State.noteDrive_motor (d : Device) (was : Bool) (s : State) :
    s.noteDrive d.motor was =
      { s with
        mot := s.mot.set d
          (if was && !(s.driveOn d.motor) then { s.mot.get d with rest := 0 }
          else if !was && s.driveOn d.motor then { s.mot.get d with lastDir := (s.mot.get d).state.dir }
          else s.mot.get d) } := by cases d <;> rfl

theorem State.modMotion_eq (d : Device) (f : Motion → Motion) (s : State) :
    s.modMotion d f = { s with mot := (s.modMotion d f).mot } := by
  unfold State.modMotion
  rw [State.noteDrive_motor]

@[simp] theorem State.modMotion_frame (d : Device) (f : Motion → Motion) (s : State) :
    (s.modMotion d f).pending = s.pending ∧ (s.modMotion d f).phase = s.phase ∧
      (s.modMotion d f).mu = s.mu ∧ (s.modMotion d f).prev = s.prev ∧
      (s.modMotion d f).acct = s.acct ∧ (s.modMotion d f).chg = s.chg ∧
      (s.modMotion d f).set = s.set ∧ (s.modMotion d f).inForce = s.inForce ∧ (s.modMotion d f).tab = s.tab ∧
      (s.modMotion d f).test = s.test ∧ (s.modMotion d f).reg = s.reg ∧
      (s.modMotion d f).alloc = s.alloc ∧ (s.modMotion d f).clim = s.clim ∧
      (s.modMotion d f).water = s.water ∧ (s.modMotion d f).wind = s.wind ∧
      (s.modMotion d f).light = s.light ∧ (s.modMotion d f).links = s.links ∧
      (s.modMotion d f).can = s.can ∧ (s.modMotion d f).vehicle = s.vehicle ∧
      (s.modMotion d f).log = s.log ∧ (s.modMotion d f).store = s.store ∧
      (s.modMotion d f).handling = s.handling := by
  rw [State.modMotion_eq]; simp

/-- A switched channel does not come on where its record's protection and allocation stay and its granted level stays or
falls to 0. -/
theorem State.driveOn_falls {r : RecNo} (hr : recKind r = .switched) (f : LoadRec → LoadRec) (s : State)
    (hf : ∀ x, (f x).alloc = x.alloc ∧ (f x).prot = x.prot ∧ ((f x).granted = x.granted ∨ (f x).granted = 0))
    (h : ({ s with tab := tset s.tab r (f (s.row r)) } : State).driveOn r = true) : s.driveOn r = true := by
  obtain ⟨h1, h2, h3⟩ := hf (s.row r)
  have hrow : ({ s with tab := tset s.tab r (f (s.row r)) } : State).row r = f (s.row r) := by simp
  unfold State.driveOn at h ⊢
  rw [hr] at h ⊢
  dsimp only at h ⊢
  rw [hrow, h1, h2] at h
  split
  · rename_i hc; rw [if_pos hc] at h; exact h
  · rename_i hc
    rw [if_neg hc] at h
    rcases h3 with h3 | h3
    · rw [h3] at h; exact h
    · rw [h3] at h; simp at h

/-- Such a change ends no self-test slot, so nothing is raised. -/
theorem State.modRec_quiet (r : RecNo) (f : LoadRec → LoadRec) (s : State)
    (hf : ∀ x, (f x).alloc = x.alloc ∧ (f x).prot = x.prot ∧ ((f x).granted = x.granted ∨ (f x).granted = 0)) :
    (s.modRec r f).test = s.test ∧ (s.modRec r f).links = s.links ∧ (s.modRec r f).log = s.log := by
  unfold State.modRec State.noteDrive
  split
  · split <;> exact ⟨rfl, rfl, rfl⟩
  · split <;> (try split) <;> exact ⟨rfl, rfl, rfl⟩
  · rename_i hk
    split
    · rename_i hb
      simp only [Bool.and_eq_true, Bool.not_eq_true'] at hb
      have := State.driveOn_falls hk f s hf hb.2
      rw [hb.1] at this; contradiction
    · exact ⟨rfl, rfl, rfl⟩

/-- R39: the granted level a change of the ordered level leaves. -/
theorem setOrdered_falls (r : RecNo) (v d : Nat) (hr : recKind r = .switched) (x : LoadRec) :
    reducedGrant r x.ordered v d x.granted = x.granted ∨ reducedGrant r x.ordered v d x.granted = 0 := by
  unfold reducedGrant; rw [hr]; split <;> simp

/-- A change of a record that is no switched channel raises nothing. -/
theorem State.modRec_quiet_other {r : RecNo} (hr : recKind r ≠ .switched) (f : LoadRec → LoadRec) (s : State) :
    (s.modRec r f).test = s.test ∧ (s.modRec r f).links = s.links ∧ (s.modRec r f).log = s.log := by
  unfold State.modRec State.noteDrive
  split
  · split <;> exact ⟨rfl, rfl, rfl⟩
  · split <;> (try split) <;> exact ⟨rfl, rfl, rfl⟩
  · contradiction

/-- R39: a change of the ordered level never turns a drive on. -/
theorem State.setOrdered_quiet (r : RecNo) (v : Nat) (i : Option (Fin 8)) (s : State) :
    (s.setOrdered r v i).test = s.test ∧ (s.setOrdered r v i).links = s.links ∧ (s.setOrdered r v i).log = s.log := by
  unfold State.setOrdered
  dsimp only
  split
  · exact ⟨rfl, rfl, rfl⟩
  · by_cases hr : recKind r = .switched
    · exact State.modRec_quiet r _ s fun x => ⟨rfl, rfl, setOrdered_falls r v _ hr x⟩
    · exact State.modRec_quiet_other hr _ s

theorem State.setWanted_quiet (r : RecNo) (v : Nat) (w : WantedBy) (s : State) :
    (s.setWanted r v w).test = s.test ∧ (s.setWanted r v w).links = s.links ∧ (s.setWanted r v w).log = s.log := by
  unfold State.setWanted
  dsimp only
  split
  · exact ⟨rfl, rfl, rfl⟩
  · have a := State.modRec_quiet r (fun x => { x with wanted := storeLevel r v, wantedBy := w }) s
      fun x => ⟨rfl, rfl, .inl rfl⟩
    have b := fun t : State => State.setOrdered_quiet r (t.orderFor r).1 (t.orderFor r).2 t
    exact ⟨(b _).1.trans a.1, (b _).2.1.trans a.2.1, (b _).2.2.trans a.2.2⟩

@[simp] theorem State.setOrdered_frame (r : RecNo) (v : Nat) (i : Option (Fin 8)) (s : State) :
    (s.setOrdered r v i).pending = s.pending ∧ (s.setOrdered r v i).phase = s.phase ∧
      (s.setOrdered r v i).mu = s.mu ∧ (s.setOrdered r v i).prev = s.prev ∧
      (s.setOrdered r v i).acct = s.acct ∧ (s.setOrdered r v i).chg = s.chg ∧
      (s.setOrdered r v i).set = s.set ∧ (s.setOrdered r v i).inForce = s.inForce ∧ (s.setOrdered r v i).test = s.test ∧
      (s.setOrdered r v i).reg = s.reg ∧ (s.setOrdered r v i).alloc = s.alloc ∧
      (s.setOrdered r v i).clim = s.clim ∧ (s.setOrdered r v i).water = s.water ∧
      (s.setOrdered r v i).wind = s.wind ∧ (s.setOrdered r v i).links = s.links ∧
      (s.setOrdered r v i).can = s.can ∧ (s.setOrdered r v i).vehicle = s.vehicle ∧
      (s.setOrdered r v i).log = s.log ∧ (s.setOrdered r v i).store = s.store ∧
      (s.setOrdered r v i).handling = s.handling := by
  obtain ⟨a, b, c⟩ := State.setOrdered_quiet r v i s
  rw [a, b, c]
  unfold State.setOrdered; dsimp only; split <;> simp

@[simp] theorem State.evalOrder_frame (r : RecNo) (s : State) :
    (s.evalOrder r).pending = s.pending ∧ (s.evalOrder r).phase = s.phase ∧
      (s.evalOrder r).mu = s.mu ∧ (s.evalOrder r).prev = s.prev ∧
      (s.evalOrder r).acct = s.acct ∧ (s.evalOrder r).chg = s.chg ∧
      (s.evalOrder r).set = s.set ∧ (s.evalOrder r).inForce = s.inForce ∧ (s.evalOrder r).test = s.test ∧
      (s.evalOrder r).reg = s.reg ∧ (s.evalOrder r).alloc = s.alloc ∧
      (s.evalOrder r).clim = s.clim ∧ (s.evalOrder r).water = s.water ∧
      (s.evalOrder r).wind = s.wind ∧ (s.evalOrder r).links = s.links ∧
      (s.evalOrder r).can = s.can ∧ (s.evalOrder r).vehicle = s.vehicle ∧
      (s.evalOrder r).log = s.log ∧ (s.evalOrder r).store = s.store ∧
      (s.evalOrder r).handling = s.handling := by
  simp [State.evalOrder]

@[simp] theorem State.setWanted_frame (r : RecNo) (v : Nat) (w : WantedBy) (s : State) :
    (s.setWanted r v w).pending = s.pending ∧ (s.setWanted r v w).phase = s.phase ∧
      (s.setWanted r v w).mu = s.mu ∧ (s.setWanted r v w).prev = s.prev ∧
      (s.setWanted r v w).acct = s.acct ∧ (s.setWanted r v w).chg = s.chg ∧
      (s.setWanted r v w).set = s.set ∧ (s.setWanted r v w).inForce = s.inForce ∧ (s.setWanted r v w).test = s.test ∧
      (s.setWanted r v w).reg = s.reg ∧ (s.setWanted r v w).alloc = s.alloc ∧
      (s.setWanted r v w).clim = s.clim ∧ (s.setWanted r v w).water = s.water ∧
      (s.setWanted r v w).wind = s.wind ∧ (s.setWanted r v w).links = s.links ∧
      (s.setWanted r v w).can = s.can ∧ (s.setWanted r v w).vehicle = s.vehicle ∧
      (s.setWanted r v w).log = s.log ∧ (s.setWanted r v w).store = s.store ∧
      (s.setWanted r v w).handling = s.handling := by
  obtain ⟨a, b, c⟩ := State.setWanted_quiet r v w s
  rw [a, b, c]
  unfold State.setWanted; dsimp only; split <;> simp

/-! ### A record that is no motor leaves the motion controllers, a switched one the lights as well -/

theorem State.noteDrive_mot {r : RecNo} (h : recKind r ≠ .motor) (was : Bool) (s : State) :
    (s.noteDrive r was).mot = s.mot := by
  unfold State.noteDrive
  split
  · contradiction
  · split <;> (try split) <;> rfl
  · split <;> simp

theorem State.noteDrive_light {r : RecNo} (h : recKind r ≠ .dimmed) (was : Bool) (s : State) :
    (s.noteDrive r was).light = s.light := by
  unfold State.noteDrive
  split
  · split <;> rfl
  · contradiction
  · split <;> simp

theorem State.modRec_mot {r : RecNo} (h : recKind r ≠ .motor) (f : LoadRec → LoadRec) (s : State) :
    (s.modRec r f).mot = s.mot := by simp [State.modRec, State.noteDrive_mot h]

theorem State.modRec_light {r : RecNo} (h : recKind r ≠ .dimmed) (f : LoadRec → LoadRec) (s : State) :
    (s.modRec r f).light = s.light := by simp [State.modRec, State.noteDrive_light h]

theorem State.evalOrder_mot {r : RecNo} (h : recKind r ≠ .motor) (s : State) : (s.evalOrder r).mot = s.mot := by
  unfold State.evalOrder State.setOrdered; dsimp only; split <;> simp [State.modRec_mot h]

theorem State.evalOrder_light {r : RecNo} (h : recKind r ≠ .dimmed) (s : State) : (s.evalOrder r).light = s.light := by
  unfold State.evalOrder State.setOrdered; dsimp only; split <;> simp [State.modRec_light h]

theorem State.setWanted_mot {r : RecNo} (h : recKind r ≠ .motor) (v : Nat) (w : WantedBy) (s : State) :
    (s.setWanted r v w).mot = s.mot := by
  unfold State.setWanted; dsimp only; split <;> simp [State.evalOrder_mot h, State.modRec_mot h]

theorem State.setWanted_light {r : RecNo} (h : recKind r ≠ .dimmed) (v : Nat) (w : WantedBy) (s : State) :
    (s.setWanted r v w).light = s.light := by
  unfold State.setWanted; dsimp only; split <;> simp [State.evalOrder_light h, State.modRec_light h]

/-- Records 0, 1, 2 and 10, which the functions drive. -/
@[simp] theorem State.setWanted_function (v : Nat) (w : WantedBy) (s : State) :
    (s.setWanted 0 v w).mot = s.mot ∧ (s.setWanted 0 v w).light = s.light ∧ (s.setWanted 1 v w).mot = s.mot ∧
      (s.setWanted 1 v w).light = s.light ∧ (s.setWanted 2 v w).mot = s.mot ∧ (s.setWanted 2 v w).light = s.light ∧
      (s.setWanted 10 v w).mot = s.mot ∧ (s.setWanted 10 v w).light = s.light := by
  refine ⟨?_, ?_, ?_, ?_, ?_, ?_, ?_, ?_⟩ <;>
    first
    | exact State.setWanted_mot (by decide) v w s
    | exact State.setWanted_light (by decide) v w s

theorem orderRecs_kind : ∀ r ∈ orderRecs, recKind r ≠ .motor := by decide

theorem conditionRecs_sub (s : State) (c : Condition) : ∀ r ∈ s.conditionRecs c, recKind r ≠ .motor :=
  fun r h => orderRecs_kind r ((List.mem_filter.mp h).1)

@[simp] theorem State.evalCondition_frame (c : Condition) (s : State) :
    (s.evalCondition c).pending = s.pending ∧ (s.evalCondition c).phase = s.phase ∧
      (s.evalCondition c).mu = s.mu ∧ (s.evalCondition c).prev = s.prev ∧
      (s.evalCondition c).acct = s.acct ∧ (s.evalCondition c).chg = s.chg ∧
      (s.evalCondition c).set = s.set ∧ (s.evalCondition c).inForce = s.inForce ∧ (s.evalCondition c).test = s.test ∧
      (s.evalCondition c).reg = s.reg ∧ (s.evalCondition c).alloc = s.alloc ∧
      (s.evalCondition c).clim = s.clim ∧ (s.evalCondition c).water = s.water ∧
      (s.evalCondition c).mot = s.mot ∧ (s.evalCondition c).wind = s.wind ∧
      (s.evalCondition c).links = s.links ∧ (s.evalCondition c).can = s.can ∧
      (s.evalCondition c).vehicle = s.vehicle ∧ (s.evalCondition c).log = s.log ∧
      (s.evalCondition c).store = s.store ∧ (s.evalCondition c).handling = s.handling := by
  exact ⟨foldl_keeps State.pending _ (fun _ _ => by simp) _ _,
    foldl_keeps State.phase _ (fun _ _ => by simp) _ _,
    foldl_keeps State.mu _ (fun _ _ => by simp) _ _,
    foldl_keeps State.prev _ (fun _ _ => by simp) _ _,
    foldl_keeps State.acct _ (fun _ _ => by simp) _ _,
    foldl_keeps State.chg _ (fun _ _ => by simp) _ _,
    foldl_keeps State.set _ (fun _ _ => by simp) _ _,
    foldl_keeps State.inForce _ (fun _ _ => by simp) _ _,
    foldl_keeps State.test _ (fun _ _ => by simp) _ _,
    foldl_keeps State.reg _ (fun _ _ => by simp) _ _,
    foldl_keeps State.alloc _ (fun _ _ => by simp) _ _,
    foldl_keeps State.clim _ (fun _ _ => by simp) _ _,
    foldl_keeps State.water _ (fun _ _ => by simp) _ _,
    foldl_keeps_mem State.mot _ _ (fun r h t => State.evalOrder_mot (conditionRecs_sub s c r h) t) _,
    foldl_keeps State.wind _ (fun _ _ => by simp) _ _,
    foldl_keeps State.links _ (fun _ _ => by simp) _ _,
    foldl_keeps State.can _ (fun _ _ => by simp) _ _,
    foldl_keeps State.vehicle _ (fun _ _ => by simp) _ _,
    foldl_keeps State.log _ (fun _ _ => by simp) _ _,
    foldl_keeps State.store _ (fun _ _ => by simp) _ _,
    foldl_keeps State.handling _ (fun _ _ => by simp) _ _⟩

@[simp] theorem State.evalConditionIf_frame (b : Bool) (c : Condition) (s : State) :
    (s.evalConditionIf b c).pending = s.pending ∧ (s.evalConditionIf b c).phase = s.phase ∧
      (s.evalConditionIf b c).mu = s.mu ∧ (s.evalConditionIf b c).prev = s.prev ∧
      (s.evalConditionIf b c).acct = s.acct ∧ (s.evalConditionIf b c).chg = s.chg ∧
      (s.evalConditionIf b c).set = s.set ∧ (s.evalConditionIf b c).inForce = s.inForce ∧ (s.evalConditionIf b c).test = s.test ∧
      (s.evalConditionIf b c).reg = s.reg ∧ (s.evalConditionIf b c).alloc = s.alloc ∧
      (s.evalConditionIf b c).clim = s.clim ∧ (s.evalConditionIf b c).water = s.water ∧
      (s.evalConditionIf b c).mot = s.mot ∧ (s.evalConditionIf b c).wind = s.wind ∧
      (s.evalConditionIf b c).links = s.links ∧ (s.evalConditionIf b c).can = s.can ∧
      (s.evalConditionIf b c).vehicle = s.vehicle ∧ (s.evalConditionIf b c).log = s.log ∧
      (s.evalConditionIf b c).store = s.store ∧ (s.evalConditionIf b c).handling = s.handling := by
  cases b <;> simp [State.evalConditionIf]

/-! ### The record an operation changes -/

theorem State.modRec_tab (r : RecNo) (f : LoadRec → LoadRec) (s : State) :
    (s.modRec r f).tab = tset s.tab r (f (tget s.tab r)) := by simp [State.modRec]

theorem State.modRec_row (r q : RecNo) (f : LoadRec → LoadRec) (s : State) :
    tget (s.modRec r f).tab q = if q = r then f (tget s.tab q) else tget s.tab q := by
  simp only [State.modRec_tab, tget_tset]; split
  · rename_i h; subst h; rfl
  · rfl

@[simp] theorem State.modRec_row_self (r : RecNo) (f : LoadRec → LoadRec) (s : State) :
    tget (s.modRec r f).tab r = f (tget s.tab r) := by simp [State.modRec_row]

theorem State.modRec_row_ne {r q : RecNo} (h : q ≠ r) (f : LoadRec → LoadRec) (s : State) :
    tget (s.modRec r f).tab q = tget s.tab q := by simp [State.modRec_row, h]

/-- R39: a change of the ordered level reaches one record only, and of its fields the ordered level, the slot, the
granted level and the joiner mark. -/
theorem State.setOrdered_row (r q : RecNo) (v : Nat) (i : Option (Fin 8)) (s : State) :
    tget (s.setOrdered r v i).tab q =
      if q = r then
        { tget s.tab r with
          ordered := v
          orderSlot := i
          granted := reducedGrant r (tget s.tab r).ordered v (s.classDim r) (tget s.tab r).granted
          join := (tget s.tab r).join || ((tget s.tab r).ordered == 0 && v != 0) }
      else tget s.tab q := by
  unfold State.setOrdered
  dsimp only [State.row_eq]
  split
  · rename_i h
    split
    · rename_i hq
      subst hq
      obtain ⟨h1, h2⟩ := h
      subst h1 h2
      have h3 : reducedGrant q (tget s.tab q).ordered (tget s.tab q).ordered (s.classDim q) (tget s.tab q).granted =
          (tget s.tab q).granted := by simp [reducedGrant]
      have h4 : ((tget s.tab q).join || ((tget s.tab q).ordered == 0 && (tget s.tab q).ordered != 0)) =
          (tget s.tab q).join := by simp
      rw [h3, h4]
    · rfl
  · by_cases hq : q = r <;> simp [State.modRec_row, hq]

theorem State.evalOrder_row_ne {r q : RecNo} (h : q ≠ r) (s : State) :
    tget (s.evalOrder r).tab q = tget s.tab q := by simp [State.evalOrder, State.setOrdered_row, h]

/-- R76: after an evaluation the ordered level is the one R75 forms. -/
theorem State.evalOrder_row_self (r : RecNo) (s : State) :
    tget (s.evalOrder r).tab r =
      { tget s.tab r with
        ordered := (s.orderFor r).1
        orderSlot := (s.orderFor r).2
        granted := reducedGrant r (tget s.tab r).ordered (s.orderFor r).1 (s.classDim r) (tget s.tab r).granted
        join := (tget s.tab r).join || ((tget s.tab r).ordered == 0 && (s.orderFor r).1 != 0) } := by
  simp [State.evalOrder, State.setOrdered_row]

theorem State.setWanted_row_ne {r q : RecNo} (h : q ≠ r) (v : Nat) (w : WantedBy) (s : State) :
    tget (s.setWanted r v w).tab q = tget s.tab q := by
  unfold State.setWanted; dsimp only; split
  · rfl
  · rw [State.evalOrder_row_ne h, State.modRec_row_ne h]

/-- R37: a record that was handed a level wants it, and names who decided it. -/
theorem State.setWanted_row_self (r : RecNo) (v : Nat) (w : WantedBy) (s : State) :
    (tget (s.setWanted r v w).tab r).wanted = storeLevel r v ∧ (tget (s.setWanted r v w).tab r).wantedBy = w ∧
      (tget (s.setWanted r v w).tab r).prot = (tget s.tab r).prot ∧
      (tget (s.setWanted r v w).tab r).alloc = (tget s.tab r).alloc ∧
      (tget (s.setWanted r v w).tab r).bucket = (tget s.tab r).bucket ∧
      (tget (s.setWanted r v w).tab r).retryCount = (tget s.tab r).retryCount ∧
      (tget (s.setWanted r v w).tab r).retryTimer = (tget s.tab r).retryTimer ∧
      (tget (s.setWanted r v w).tab r).quiet = (tget s.tab r).quiet := by
  unfold State.setWanted; dsimp only [State.row_eq]; split
  · rename_i h; exact ⟨h.1, h.2, rfl, rfl, rfl, rfl, rfl, rfl⟩
  · simp [State.evalOrder, State.setOrdered_row]

/-! ### Links under the load table's operations: only event sets and the output record change -/

@[simp] theorem State.abortTest_lk (r : RecNo) (s : State) (k : Link) :
    ((s.abortTest r).links.get k).live = (s.links.get k).live ∧ ((s.abortTest r).links.get k).timer = (s.links.get k).timer ∧
      ((s.abortTest r).links.get k).shortTaken = (s.links.get k).shortTaken ∧ ((s.abortTest r).links.get k).longTaken = (s.links.get k).longTaken ∧
      ((s.abortTest r).links.get k).shortN = (s.links.get k).shortN ∧ ((s.abortTest r).links.get k).longN = (s.links.get k).longN ∧
      ((s.abortTest r).links.get k).rxQueue = (s.links.get k).rxQueue ∧ ((s.abortTest r).links.get k).part = (s.links.get k).part ∧
      ((s.abortTest r).links.get k).batch = (s.links.get k).batch ∧ ((s.abortTest r).links.get k).snapshot = (s.links.get k).snapshot ∧
      ((s.abortTest r).links.get k).mask = (s.links.get k).mask ∧ ((s.abortTest r).links.get k).echo = (s.links.get k).echo := by
  unfold State.abortTest; split <;> (try split) <;> simp

@[simp] theorem State.abortTest_uart (r : RecNo) (s : State) :
    ((s.abortTest r).links.get .p).sent = (s.links.get .p).sent ∧
      ((s.abortTest r).links.get .t).sent = (s.links.get .t).sent := by
  unfold State.abortTest; split <;> (try split) <;> simp

@[simp] theorem State.noteDrive_lk (r : RecNo) (was : Bool) (s : State) (k : Link) :
    ((s.noteDrive r was).links.get k).live = (s.links.get k).live ∧ ((s.noteDrive r was).links.get k).timer = (s.links.get k).timer ∧
      ((s.noteDrive r was).links.get k).shortTaken = (s.links.get k).shortTaken ∧ ((s.noteDrive r was).links.get k).longTaken = (s.links.get k).longTaken ∧
      ((s.noteDrive r was).links.get k).shortN = (s.links.get k).shortN ∧ ((s.noteDrive r was).links.get k).longN = (s.links.get k).longN ∧
      ((s.noteDrive r was).links.get k).rxQueue = (s.links.get k).rxQueue ∧ ((s.noteDrive r was).links.get k).part = (s.links.get k).part ∧
      ((s.noteDrive r was).links.get k).batch = (s.links.get k).batch ∧ ((s.noteDrive r was).links.get k).snapshot = (s.links.get k).snapshot ∧
      ((s.noteDrive r was).links.get k).mask = (s.links.get k).mask ∧ ((s.noteDrive r was).links.get k).echo = (s.links.get k).echo := by
  unfold State.noteDrive; split <;> (try split) <;> (try split) <;> simp

@[simp] theorem State.noteDrive_uart (r : RecNo) (was : Bool) (s : State) :
    ((s.noteDrive r was).links.get .p).sent = (s.links.get .p).sent ∧
      ((s.noteDrive r was).links.get .t).sent = (s.links.get .t).sent := by
  unfold State.noteDrive; split <;> (try split) <;> (try split) <;> simp

@[simp] theorem State.modRec_lk (r : RecNo) (f : LoadRec → LoadRec) (s : State) (k : Link) :
    ((s.modRec r f).links.get k).live = (s.links.get k).live ∧ ((s.modRec r f).links.get k).timer = (s.links.get k).timer ∧
      ((s.modRec r f).links.get k).shortTaken = (s.links.get k).shortTaken ∧ ((s.modRec r f).links.get k).longTaken = (s.links.get k).longTaken ∧
      ((s.modRec r f).links.get k).shortN = (s.links.get k).shortN ∧ ((s.modRec r f).links.get k).longN = (s.links.get k).longN ∧
      ((s.modRec r f).links.get k).rxQueue = (s.links.get k).rxQueue ∧ ((s.modRec r f).links.get k).part = (s.links.get k).part ∧
      ((s.modRec r f).links.get k).batch = (s.links.get k).batch ∧ ((s.modRec r f).links.get k).snapshot = (s.links.get k).snapshot ∧
      ((s.modRec r f).links.get k).mask = (s.links.get k).mask ∧ ((s.modRec r f).links.get k).echo = (s.links.get k).echo := by
  simp [State.modRec]

@[simp] theorem State.modRec_uart (r : RecNo) (f : LoadRec → LoadRec) (s : State) :
    ((s.modRec r f).links.get .p).sent = (s.links.get .p).sent ∧
      ((s.modRec r f).links.get .t).sent = (s.links.get .t).sent := by
  simp [State.modRec]

@[simp] theorem State.modMotion_lk (d : Device) (f : Motion → Motion) (s : State) (k : Link) :
    ((s.modMotion d f).links.get k).live = (s.links.get k).live ∧ ((s.modMotion d f).links.get k).timer = (s.links.get k).timer ∧
      ((s.modMotion d f).links.get k).shortTaken = (s.links.get k).shortTaken ∧ ((s.modMotion d f).links.get k).longTaken = (s.links.get k).longTaken ∧
      ((s.modMotion d f).links.get k).shortN = (s.links.get k).shortN ∧ ((s.modMotion d f).links.get k).longN = (s.links.get k).longN ∧
      ((s.modMotion d f).links.get k).rxQueue = (s.links.get k).rxQueue ∧ ((s.modMotion d f).links.get k).part = (s.links.get k).part ∧
      ((s.modMotion d f).links.get k).batch = (s.links.get k).batch ∧ ((s.modMotion d f).links.get k).snapshot = (s.links.get k).snapshot ∧
      ((s.modMotion d f).links.get k).mask = (s.links.get k).mask ∧ ((s.modMotion d f).links.get k).echo = (s.links.get k).echo := by
  simp

@[simp] theorem State.modMotion_uart (d : Device) (f : Motion → Motion) (s : State) :
    ((s.modMotion d f).links.get .p).sent = (s.links.get .p).sent ∧
      ((s.modMotion d f).links.get .t).sent = (s.links.get .t).sent := by
  simp

end Sys2Proof.Machine
end

