-- ==== Sys2Proof/Laws/Functions.lean ====
section
/-!
SUPPORT. What the operations of the water controller, the climate controller and the demand register leave unchanged.
-/

namespace Sys2Proof.Machine

/-! ### Water -/

@[simp] theorem State.setPump_frame (p : PumpState) (s : State) :
    (s.setPump p).pending = s.pending ∧ (s.setPump p).phase = s.phase ∧
      (s.setPump p).mu = s.mu ∧ (s.setPump p).prev = s.prev ∧
      (s.setPump p).acct = s.acct ∧ (s.setPump p).chg = s.chg ∧
      (s.setPump p).set = s.set ∧ (s.setPump p).inForce = s.inForce ∧ (s.setPump p).test = s.test ∧
      (s.setPump p).reg = s.reg ∧ (s.setPump p).alloc = s.alloc ∧
      (s.setPump p).clim = s.clim ∧ (s.setPump p).mot = s.mot ∧
      (s.setPump p).wind = s.wind ∧ (s.setPump p).light = s.light ∧
      (s.setPump p).can = s.can ∧ (s.setPump p).vehicle = s.vehicle ∧
      (s.setPump p).log = s.log ∧ (s.setPump p).store = s.store ∧
      (s.setPump p).handling = s.handling := by
  unfold State.setPump; (try dsimp only); (repeat' split) <;> simp

@[simp] theorem State.setPump_lk (p : PumpState) (s : State) (k : Link) :
    ((s.setPump p).links.get k).live = (s.links.get k).live ∧ ((s.setPump p).links.get k).timer = (s.links.get k).timer ∧
      ((s.setPump p).links.get k).shortTaken = (s.links.get k).shortTaken ∧ ((s.setPump p).links.get k).longTaken = (s.links.get k).longTaken ∧
      ((s.setPump p).links.get k).shortN = (s.links.get k).shortN ∧ ((s.setPump p).links.get k).longN = (s.links.get k).longN ∧
      ((s.setPump p).links.get k).rxQueue = (s.links.get k).rxQueue ∧ ((s.setPump p).links.get k).part = (s.links.get k).part ∧
      ((s.setPump p).links.get k).batch = (s.links.get k).batch ∧ ((s.setPump p).links.get k).snapshot = (s.links.get k).snapshot ∧
      ((s.setPump p).links.get k).mask = (s.links.get k).mask ∧ ((s.setPump p).links.get k).echo = (s.links.get k).echo := by
  unfold State.setPump; (try dsimp only); (repeat' split) <;> simp

@[simp] theorem State.setPump_uart (p : PumpState) (s : State) :
    ((s.setPump p).links.get .p).sent = (s.links.get .p).sent ∧
      ((s.setPump p).links.get .t).sent = (s.links.get .t).sent := by
  unfold State.setPump; (try dsimp only); (repeat' split) <;> simp

@[simp] theorem State.pumpEval_frame  (s : State) :
    (s.pumpEval).pending = s.pending ∧ (s.pumpEval).phase = s.phase ∧
      (s.pumpEval).mu = s.mu ∧ (s.pumpEval).prev = s.prev ∧
      (s.pumpEval).acct = s.acct ∧ (s.pumpEval).chg = s.chg ∧
      (s.pumpEval).set = s.set ∧ (s.pumpEval).inForce = s.inForce ∧ (s.pumpEval).test = s.test ∧
      (s.pumpEval).reg = s.reg ∧ (s.pumpEval).alloc = s.alloc ∧
      (s.pumpEval).clim = s.clim ∧ (s.pumpEval).mot = s.mot ∧
      (s.pumpEval).wind = s.wind ∧ (s.pumpEval).light = s.light ∧
      (s.pumpEval).can = s.can ∧ (s.pumpEval).vehicle = s.vehicle ∧
      (s.pumpEval).log = s.log ∧ (s.pumpEval).store = s.store ∧
      (s.pumpEval).handling = s.handling := by
  unfold State.pumpEval; (try dsimp only); (repeat' split) <;> simp

@[simp] theorem State.pumpEval_lk  (s : State) (k : Link) :
    ((s.pumpEval).links.get k).live = (s.links.get k).live ∧ ((s.pumpEval).links.get k).timer = (s.links.get k).timer ∧
      ((s.pumpEval).links.get k).shortTaken = (s.links.get k).shortTaken ∧ ((s.pumpEval).links.get k).longTaken = (s.links.get k).longTaken ∧
      ((s.pumpEval).links.get k).shortN = (s.links.get k).shortN ∧ ((s.pumpEval).links.get k).longN = (s.links.get k).longN ∧
      ((s.pumpEval).links.get k).rxQueue = (s.links.get k).rxQueue ∧ ((s.pumpEval).links.get k).part = (s.links.get k).part ∧
      ((s.pumpEval).links.get k).batch = (s.links.get k).batch ∧ ((s.pumpEval).links.get k).snapshot = (s.links.get k).snapshot ∧
      ((s.pumpEval).links.get k).mask = (s.links.get k).mask ∧ ((s.pumpEval).links.get k).echo = (s.links.get k).echo := by
  unfold State.pumpEval; (try dsimp only); (repeat' split) <;> simp

@[simp] theorem State.pumpEval_uart  (s : State) :
    ((s.pumpEval).links.get .p).sent = (s.links.get .p).sent ∧
      ((s.pumpEval).links.get .t).sent = (s.links.get .t).sent := by
  unfold State.pumpEval; (try dsimp only); (repeat' split) <;> simp

@[simp] theorem State.pumpRelease_frame  (s : State) :
    (s.pumpRelease).pending = s.pending ∧ (s.pumpRelease).phase = s.phase ∧
      (s.pumpRelease).mu = s.mu ∧ (s.pumpRelease).prev = s.prev ∧
      (s.pumpRelease).acct = s.acct ∧ (s.pumpRelease).chg = s.chg ∧
      (s.pumpRelease).set = s.set ∧ (s.pumpRelease).inForce = s.inForce ∧ (s.pumpRelease).test = s.test ∧
      (s.pumpRelease).reg = s.reg ∧ (s.pumpRelease).alloc = s.alloc ∧
      (s.pumpRelease).clim = s.clim ∧ (s.pumpRelease).mot = s.mot ∧
      (s.pumpRelease).wind = s.wind ∧ (s.pumpRelease).light = s.light ∧
      (s.pumpRelease).can = s.can ∧ (s.pumpRelease).vehicle = s.vehicle ∧
      (s.pumpRelease).log = s.log ∧ (s.pumpRelease).store = s.store ∧
      (s.pumpRelease).handling = s.handling := by
  unfold State.pumpRelease; (try dsimp only); (repeat' split) <;> simp

@[simp] theorem State.pumpRelease_lk  (s : State) (k : Link) :
    ((s.pumpRelease).links.get k).live = (s.links.get k).live ∧ ((s.pumpRelease).links.get k).timer = (s.links.get k).timer ∧
      ((s.pumpRelease).links.get k).shortTaken = (s.links.get k).shortTaken ∧ ((s.pumpRelease).links.get k).longTaken = (s.links.get k).longTaken ∧
      ((s.pumpRelease).links.get k).shortN = (s.links.get k).shortN ∧ ((s.pumpRelease).links.get k).longN = (s.links.get k).longN ∧
      ((s.pumpRelease).links.get k).rxQueue = (s.links.get k).rxQueue ∧ ((s.pumpRelease).links.get k).part = (s.links.get k).part ∧
      ((s.pumpRelease).links.get k).batch = (s.links.get k).batch ∧ ((s.pumpRelease).links.get k).snapshot = (s.links.get k).snapshot ∧
      ((s.pumpRelease).links.get k).mask = (s.links.get k).mask ∧ ((s.pumpRelease).links.get k).echo = (s.links.get k).echo := by
  unfold State.pumpRelease; (try dsimp only); (repeat' split) <;> simp

@[simp] theorem State.pumpRelease_uart  (s : State) :
    ((s.pumpRelease).links.get .p).sent = (s.links.get .p).sent ∧
      ((s.pumpRelease).links.get .t).sent = (s.links.get .t).sent := by
  unfold State.pumpRelease; (try dsimp only); (repeat' split) <;> simp

@[simp] theorem State.pumpDry_frame  (s : State) :
    (s.pumpDry).pending = s.pending ∧ (s.pumpDry).phase = s.phase ∧
      (s.pumpDry).mu = s.mu ∧ (s.pumpDry).prev = s.prev ∧
      (s.pumpDry).acct = s.acct ∧ (s.pumpDry).chg = s.chg ∧
      (s.pumpDry).set = s.set ∧ (s.pumpDry).inForce = s.inForce ∧ (s.pumpDry).test = s.test ∧
      (s.pumpDry).reg = s.reg ∧ (s.pumpDry).alloc = s.alloc ∧
      (s.pumpDry).clim = s.clim ∧ (s.pumpDry).mot = s.mot ∧
      (s.pumpDry).wind = s.wind ∧ (s.pumpDry).light = s.light ∧
      (s.pumpDry).can = s.can ∧ (s.pumpDry).vehicle = s.vehicle ∧
      (s.pumpDry).store = s.store ∧ (s.pumpDry).handling = s.handling := by
  simp [State.pumpDry]

@[simp] theorem State.pumpDry_lk  (s : State) (k : Link) :
    ((s.pumpDry).links.get k).live = (s.links.get k).live ∧ ((s.pumpDry).links.get k).timer = (s.links.get k).timer ∧
      ((s.pumpDry).links.get k).shortTaken = (s.links.get k).shortTaken ∧ ((s.pumpDry).links.get k).longTaken = (s.links.get k).longTaken ∧
      ((s.pumpDry).links.get k).shortN = (s.links.get k).shortN ∧ ((s.pumpDry).links.get k).longN = (s.links.get k).longN ∧
      ((s.pumpDry).links.get k).rxQueue = (s.links.get k).rxQueue ∧ ((s.pumpDry).links.get k).part = (s.links.get k).part ∧
      ((s.pumpDry).links.get k).batch = (s.links.get k).batch ∧ ((s.pumpDry).links.get k).snapshot = (s.links.get k).snapshot ∧
      ((s.pumpDry).links.get k).mask = (s.links.get k).mask ∧ ((s.pumpDry).links.get k).echo = (s.links.get k).echo := by
  simp [State.pumpDry]

@[simp] theorem State.pumpDry_uart  (s : State) :
    ((s.pumpDry).links.get .p).sent = (s.links.get .p).sent ∧
      ((s.pumpDry).links.get .t).sent = (s.links.get .t).sent := by
  simp [State.pumpDry]

@[simp] theorem State.pumpTrip_frame  (s : State) :
    (s.pumpTrip).pending = s.pending ∧ (s.pumpTrip).phase = s.phase ∧
      (s.pumpTrip).mu = s.mu ∧ (s.pumpTrip).prev = s.prev ∧
      (s.pumpTrip).acct = s.acct ∧ (s.pumpTrip).chg = s.chg ∧
      (s.pumpTrip).set = s.set ∧ (s.pumpTrip).inForce = s.inForce ∧ (s.pumpTrip).test = s.test ∧
      (s.pumpTrip).reg = s.reg ∧ (s.pumpTrip).alloc = s.alloc ∧
      (s.pumpTrip).clim = s.clim ∧ (s.pumpTrip).mot = s.mot ∧
      (s.pumpTrip).wind = s.wind ∧ (s.pumpTrip).light = s.light ∧
      (s.pumpTrip).can = s.can ∧ (s.pumpTrip).vehicle = s.vehicle ∧
      (s.pumpTrip).log = s.log ∧ (s.pumpTrip).store = s.store ∧
      (s.pumpTrip).handling = s.handling := by
  unfold State.pumpTrip; (try dsimp only); (repeat' split) <;> simp

@[simp] theorem State.pumpTrip_lk  (s : State) (k : Link) :
    ((s.pumpTrip).links.get k).live = (s.links.get k).live ∧ ((s.pumpTrip).links.get k).timer = (s.links.get k).timer ∧
      ((s.pumpTrip).links.get k).shortTaken = (s.links.get k).shortTaken ∧ ((s.pumpTrip).links.get k).longTaken = (s.links.get k).longTaken ∧
      ((s.pumpTrip).links.get k).shortN = (s.links.get k).shortN ∧ ((s.pumpTrip).links.get k).longN = (s.links.get k).longN ∧
      ((s.pumpTrip).links.get k).rxQueue = (s.links.get k).rxQueue ∧ ((s.pumpTrip).links.get k).part = (s.links.get k).part ∧
      ((s.pumpTrip).links.get k).batch = (s.links.get k).batch ∧ ((s.pumpTrip).links.get k).snapshot = (s.links.get k).snapshot ∧
      ((s.pumpTrip).links.get k).mask = (s.links.get k).mask ∧ ((s.pumpTrip).links.get k).echo = (s.links.get k).echo := by
  unfold State.pumpTrip; (try dsimp only); (repeat' split) <;> simp

@[simp] theorem State.pumpTrip_uart  (s : State) :
    ((s.pumpTrip).links.get .p).sent = (s.links.get .p).sent ∧
      ((s.pumpTrip).links.get .t).sent = (s.links.get .t).sent := by
  unfold State.pumpTrip; (try dsimp only); (repeat' split) <;> simp

@[simp] theorem State.handPumpMode_frame (m : PumpMode) (w : WantedBy) (s : State) :
    (s.handPumpMode m w).pending = s.pending ∧ (s.handPumpMode m w).phase = s.phase ∧
      (s.handPumpMode m w).mu = s.mu ∧ (s.handPumpMode m w).prev = s.prev ∧
      (s.handPumpMode m w).acct = s.acct ∧ (s.handPumpMode m w).chg = s.chg ∧
      (s.handPumpMode m w).set = s.set ∧ (s.handPumpMode m w).inForce = s.inForce ∧ (s.handPumpMode m w).test = s.test ∧
      (s.handPumpMode m w).reg = s.reg ∧ (s.handPumpMode m w).alloc = s.alloc ∧
      (s.handPumpMode m w).clim = s.clim ∧ (s.handPumpMode m w).mot = s.mot ∧
      (s.handPumpMode m w).wind = s.wind ∧ (s.handPumpMode m w).light = s.light ∧
      (s.handPumpMode m w).can = s.can ∧ (s.handPumpMode m w).vehicle = s.vehicle ∧
      (s.handPumpMode m w).log = s.log ∧ (s.handPumpMode m w).store = s.store ∧
      (s.handPumpMode m w).handling = s.handling := by
  simp [State.handPumpMode]

@[simp] theorem State.handPumpMode_lk (m : PumpMode) (w : WantedBy) (s : State) (k : Link) :
    ((s.handPumpMode m w).links.get k).live = (s.links.get k).live ∧ ((s.handPumpMode m w).links.get k).timer = (s.links.get k).timer ∧
      ((s.handPumpMode m w).links.get k).shortTaken = (s.links.get k).shortTaken ∧ ((s.handPumpMode m w).links.get k).longTaken = (s.links.get k).longTaken ∧
      ((s.handPumpMode m w).links.get k).shortN = (s.links.get k).shortN ∧ ((s.handPumpMode m w).links.get k).longN = (s.links.get k).longN ∧
      ((s.handPumpMode m w).links.get k).rxQueue = (s.links.get k).rxQueue ∧ ((s.handPumpMode m w).links.get k).part = (s.links.get k).part ∧
      ((s.handPumpMode m w).links.get k).batch = (s.links.get k).batch ∧ ((s.handPumpMode m w).links.get k).snapshot = (s.links.get k).snapshot ∧
      ((s.handPumpMode m w).links.get k).mask = (s.links.get k).mask ∧ ((s.handPumpMode m w).links.get k).echo = (s.links.get k).echo := by
  simp [State.handPumpMode]

@[simp] theorem State.handPumpMode_uart (m : PumpMode) (w : WantedBy) (s : State) :
    ((s.handPumpMode m w).links.get .p).sent = (s.links.get .p).sent ∧
      ((s.handPumpMode m w).links.get .t).sent = (s.links.get .t).sent := by
  simp [State.handPumpMode]

@[simp] theorem State.handDrain_frame (d : DrainState) (s : State) :
    (s.handDrain d).pending = s.pending ∧ (s.handDrain d).phase = s.phase ∧
      (s.handDrain d).mu = s.mu ∧ (s.handDrain d).prev = s.prev ∧
      (s.handDrain d).acct = s.acct ∧ (s.handDrain d).chg = s.chg ∧
      (s.handDrain d).set = s.set ∧ (s.handDrain d).inForce = s.inForce ∧ (s.handDrain d).test = s.test ∧
      (s.handDrain d).reg = s.reg ∧ (s.handDrain d).alloc = s.alloc ∧
      (s.handDrain d).clim = s.clim ∧ (s.handDrain d).mot = s.mot ∧
      (s.handDrain d).wind = s.wind ∧ (s.handDrain d).light = s.light ∧
      (s.handDrain d).can = s.can ∧ (s.handDrain d).vehicle = s.vehicle ∧
      (s.handDrain d).log = s.log ∧ (s.handDrain d).store = s.store ∧
      (s.handDrain d).handling = s.handling := by
  unfold State.handDrain; (try dsimp only); (repeat' split) <;> simp

@[simp] theorem State.handDrain_lk (d : DrainState) (s : State) (k : Link) :
    ((s.handDrain d).links.get k).live = (s.links.get k).live ∧ ((s.handDrain d).links.get k).timer = (s.links.get k).timer ∧
      ((s.handDrain d).links.get k).shortTaken = (s.links.get k).shortTaken ∧ ((s.handDrain d).links.get k).longTaken = (s.links.get k).longTaken ∧
      ((s.handDrain d).links.get k).shortN = (s.links.get k).shortN ∧ ((s.handDrain d).links.get k).longN = (s.links.get k).longN ∧
      ((s.handDrain d).links.get k).rxQueue = (s.links.get k).rxQueue ∧ ((s.handDrain d).links.get k).part = (s.links.get k).part ∧
      ((s.handDrain d).links.get k).batch = (s.links.get k).batch ∧ ((s.handDrain d).links.get k).snapshot = (s.links.get k).snapshot ∧
      ((s.handDrain d).links.get k).mask = (s.links.get k).mask ∧ ((s.handDrain d).links.get k).echo = (s.links.get k).echo := by
  unfold State.handDrain; (try dsimp only); (repeat' split) <;> simp

@[simp] theorem State.handDrain_uart (d : DrainState) (s : State) :
    ((s.handDrain d).links.get .p).sent = (s.links.get .p).sent ∧
      ((s.handDrain d).links.get .t).sent = (s.links.get .t).sent := by
  unfold State.handDrain; (try dsimp only); (repeat' split) <;> simp

@[simp] theorem State.waterStep1_frame  (s : State) :
    (s.waterStep1).pending = s.pending ∧ (s.waterStep1).phase = s.phase ∧
      (s.waterStep1).mu = s.mu ∧ (s.waterStep1).prev = s.prev ∧
      (s.waterStep1).acct = s.acct ∧ (s.waterStep1).chg = s.chg ∧
      (s.waterStep1).set = s.set ∧ (s.waterStep1).tab = s.tab ∧
      (s.waterStep1).test = s.test ∧ (s.waterStep1).reg = s.reg ∧
      (s.waterStep1).alloc = s.alloc ∧ (s.waterStep1).clim = s.clim ∧
      (s.waterStep1).mot = s.mot ∧ (s.waterStep1).wind = s.wind ∧
      (s.waterStep1).light = s.light ∧ (s.waterStep1).links = s.links ∧
      (s.waterStep1).can = s.can ∧ (s.waterStep1).vehicle = s.vehicle ∧
      (s.waterStep1).log = s.log ∧ (s.waterStep1).store = s.store ∧
      (s.waterStep1).handling = s.handling := by
  simp [State.waterStep1]

@[simp] theorem State.waterStep2_frame  (s : State) :
    (s.waterStep2).pending = s.pending ∧ (s.waterStep2).phase = s.phase ∧
      (s.waterStep2).mu = s.mu ∧ (s.waterStep2).prev = s.prev ∧
      (s.waterStep2).acct = s.acct ∧ (s.waterStep2).chg = s.chg ∧
      (s.waterStep2).set = s.set ∧ (s.waterStep2).inForce = s.inForce ∧ (s.waterStep2).tab = s.tab ∧
      (s.waterStep2).test = s.test ∧ (s.waterStep2).reg = s.reg ∧
      (s.waterStep2).alloc = s.alloc ∧ (s.waterStep2).clim = s.clim ∧
      (s.waterStep2).mot = s.mot ∧ (s.waterStep2).wind = s.wind ∧
      (s.waterStep2).light = s.light ∧ (s.waterStep2).can = s.can ∧
      (s.waterStep2).vehicle = s.vehicle ∧ (s.waterStep2).log = s.log ∧
      (s.waterStep2).store = s.store ∧ (s.waterStep2).handling = s.handling := by
  simp [State.waterStep2]

@[simp] theorem State.waterStep2_lk  (s : State) (k : Link) :
    ((s.waterStep2).links.get k).live = (s.links.get k).live ∧ ((s.waterStep2).links.get k).timer = (s.links.get k).timer ∧
      ((s.waterStep2).links.get k).shortTaken = (s.links.get k).shortTaken ∧ ((s.waterStep2).links.get k).longTaken = (s.links.get k).longTaken ∧
      ((s.waterStep2).links.get k).shortN = (s.links.get k).shortN ∧ ((s.waterStep2).links.get k).longN = (s.links.get k).longN ∧
      ((s.waterStep2).links.get k).rxQueue = (s.links.get k).rxQueue ∧ ((s.waterStep2).links.get k).part = (s.links.get k).part ∧
      ((s.waterStep2).links.get k).batch = (s.links.get k).batch ∧ ((s.waterStep2).links.get k).snapshot = (s.links.get k).snapshot ∧
      ((s.waterStep2).links.get k).mask = (s.links.get k).mask ∧ ((s.waterStep2).links.get k).echo = (s.links.get k).echo := by
  simp [State.waterStep2]

@[simp] theorem State.waterStep2_uart  (s : State) :
    ((s.waterStep2).links.get .p).sent = (s.links.get .p).sent ∧
      ((s.waterStep2).links.get .t).sent = (s.links.get .t).sent := by
  simp [State.waterStep2]

@[simp] theorem State.waterStep3_frame  (s : State) :
    (s.waterStep3).pending = s.pending ∧ (s.waterStep3).phase = s.phase ∧
      (s.waterStep3).mu = s.mu ∧ (s.waterStep3).prev = s.prev ∧
      (s.waterStep3).acct = s.acct ∧ (s.waterStep3).chg = s.chg ∧
      (s.waterStep3).set = s.set ∧ (s.waterStep3).inForce = s.inForce ∧ (s.waterStep3).test = s.test ∧
      (s.waterStep3).reg = s.reg ∧ (s.waterStep3).alloc = s.alloc ∧
      (s.waterStep3).clim = s.clim ∧ (s.waterStep3).mot = s.mot ∧
      (s.waterStep3).wind = s.wind ∧ (s.waterStep3).can = s.can ∧
      (s.waterStep3).vehicle = s.vehicle ∧ (s.waterStep3).log = s.log ∧
      (s.waterStep3).store = s.store ∧ (s.waterStep3).handling = s.handling := by
  simp [State.waterStep3]

@[simp] theorem State.waterStep3_lk  (s : State) (k : Link) :
    ((s.waterStep3).links.get k).live = (s.links.get k).live ∧ ((s.waterStep3).links.get k).timer = (s.links.get k).timer ∧
      ((s.waterStep3).links.get k).shortTaken = (s.links.get k).shortTaken ∧ ((s.waterStep3).links.get k).longTaken = (s.links.get k).longTaken ∧
      ((s.waterStep3).links.get k).shortN = (s.links.get k).shortN ∧ ((s.waterStep3).links.get k).longN = (s.links.get k).longN ∧
      ((s.waterStep3).links.get k).rxQueue = (s.links.get k).rxQueue ∧ ((s.waterStep3).links.get k).part = (s.links.get k).part ∧
      ((s.waterStep3).links.get k).batch = (s.links.get k).batch ∧ ((s.waterStep3).links.get k).snapshot = (s.links.get k).snapshot ∧
      ((s.waterStep3).links.get k).mask = (s.links.get k).mask ∧ ((s.waterStep3).links.get k).echo = (s.links.get k).echo := by
  simp [State.waterStep3]

@[simp] theorem State.waterStep3_uart  (s : State) :
    ((s.waterStep3).links.get .p).sent = (s.links.get .p).sent ∧
      ((s.waterStep3).links.get .t).sent = (s.links.get .t).sent := by
  simp [State.waterStep3]

@[simp] theorem State.waterStep4_frame  (s : State) :
    (s.waterStep4).pending = s.pending ∧ (s.waterStep4).phase = s.phase ∧
      (s.waterStep4).mu = s.mu ∧ (s.waterStep4).prev = s.prev ∧
      (s.waterStep4).acct = s.acct ∧ (s.waterStep4).chg = s.chg ∧
      (s.waterStep4).set = s.set ∧ (s.waterStep4).inForce = s.inForce ∧ (s.waterStep4).test = s.test ∧
      (s.waterStep4).reg = s.reg ∧ (s.waterStep4).alloc = s.alloc ∧
      (s.waterStep4).clim = s.clim ∧ (s.waterStep4).mot = s.mot ∧
      (s.waterStep4).wind = s.wind ∧ (s.waterStep4).light = s.light ∧
      (s.waterStep4).can = s.can ∧ (s.waterStep4).vehicle = s.vehicle ∧
      (s.waterStep4).log = s.log ∧ (s.waterStep4).store = s.store ∧
      (s.waterStep4).handling = s.handling := by
  unfold State.waterStep4; (try dsimp only); (repeat' split) <;> simp

@[simp] theorem State.waterStep4_lk  (s : State) (k : Link) :
    ((s.waterStep4).links.get k).live = (s.links.get k).live ∧ ((s.waterStep4).links.get k).timer = (s.links.get k).timer ∧
      ((s.waterStep4).links.get k).shortTaken = (s.links.get k).shortTaken ∧ ((s.waterStep4).links.get k).longTaken = (s.links.get k).longTaken ∧
      ((s.waterStep4).links.get k).shortN = (s.links.get k).shortN ∧ ((s.waterStep4).links.get k).longN = (s.links.get k).longN ∧
      ((s.waterStep4).links.get k).rxQueue = (s.links.get k).rxQueue ∧ ((s.waterStep4).links.get k).part = (s.links.get k).part ∧
      ((s.waterStep4).links.get k).batch = (s.links.get k).batch ∧ ((s.waterStep4).links.get k).snapshot = (s.links.get k).snapshot ∧
      ((s.waterStep4).links.get k).mask = (s.links.get k).mask ∧ ((s.waterStep4).links.get k).echo = (s.links.get k).echo := by
  unfold State.waterStep4; (try dsimp only); (repeat' split) <;> simp

@[simp] theorem State.waterStep4_uart  (s : State) :
    ((s.waterStep4).links.get .p).sent = (s.links.get .p).sent ∧
      ((s.waterStep4).links.get .t).sent = (s.links.get .t).sent := by
  unfold State.waterStep4; (try dsimp only); (repeat' split) <;> simp

@[simp] theorem State.waterStep6_frame  (s : State) :
    (s.waterStep6).pending = s.pending ∧ (s.waterStep6).phase = s.phase ∧
      (s.waterStep6).mu = s.mu ∧ (s.waterStep6).prev = s.prev ∧
      (s.waterStep6).acct = s.acct ∧ (s.waterStep6).chg = s.chg ∧
      (s.waterStep6).set = s.set ∧ (s.waterStep6).inForce = s.inForce ∧ (s.waterStep6).test = s.test ∧
      (s.waterStep6).reg = s.reg ∧ (s.waterStep6).alloc = s.alloc ∧
      (s.waterStep6).clim = s.clim ∧ (s.waterStep6).mot = s.mot ∧
      (s.waterStep6).wind = s.wind ∧ (s.waterStep6).light = s.light ∧
      (s.waterStep6).can = s.can ∧ (s.waterStep6).vehicle = s.vehicle ∧
      (s.waterStep6).store = s.store ∧ (s.waterStep6).handling = s.handling := by
  unfold State.waterStep6; (try dsimp only); (repeat' split) <;> simp

@[simp] theorem State.waterStep6_lk  (s : State) (k : Link) :
    ((s.waterStep6).links.get k).live = (s.links.get k).live ∧ ((s.waterStep6).links.get k).timer = (s.links.get k).timer ∧
      ((s.waterStep6).links.get k).shortTaken = (s.links.get k).shortTaken ∧ ((s.waterStep6).links.get k).longTaken = (s.links.get k).longTaken ∧
      ((s.waterStep6).links.get k).shortN = (s.links.get k).shortN ∧ ((s.waterStep6).links.get k).longN = (s.links.get k).longN ∧
      ((s.waterStep6).links.get k).rxQueue = (s.links.get k).rxQueue ∧ ((s.waterStep6).links.get k).part = (s.links.get k).part ∧
      ((s.waterStep6).links.get k).batch = (s.links.get k).batch ∧ ((s.waterStep6).links.get k).snapshot = (s.links.get k).snapshot ∧
      ((s.waterStep6).links.get k).mask = (s.links.get k).mask ∧ ((s.waterStep6).links.get k).echo = (s.links.get k).echo := by
  unfold State.waterStep6; (try dsimp only); (repeat' split) <;> simp

@[simp] theorem State.waterStep6_uart  (s : State) :
    ((s.waterStep6).links.get .p).sent = (s.links.get .p).sent ∧
      ((s.waterStep6).links.get .t).sent = (s.links.get .t).sent := by
  unfold State.waterStep6; (try dsimp only); (repeat' split) <;> simp

@[simp] theorem State.waterSweep_frame  (s : State) :
    (s.waterSweep).pending = s.pending ∧ (s.waterSweep).phase = s.phase ∧
      (s.waterSweep).mu = s.mu ∧ (s.waterSweep).prev = s.prev ∧
      (s.waterSweep).acct = s.acct ∧ (s.waterSweep).chg = s.chg ∧
      (s.waterSweep).set = s.set ∧ (s.waterSweep).test = s.test ∧
      (s.waterSweep).reg = s.reg ∧ (s.waterSweep).alloc = s.alloc ∧
      (s.waterSweep).clim = s.clim ∧ (s.waterSweep).mot = s.mot ∧
      (s.waterSweep).wind = s.wind ∧ (s.waterSweep).can = s.can ∧
      (s.waterSweep).vehicle = s.vehicle ∧ (s.waterSweep).store = s.store ∧
      (s.waterSweep).handling = s.handling := by
  unfold State.waterSweep; (try dsimp only); (repeat' split) <;> simp

@[simp] theorem State.waterSweep_lk  (s : State) (k : Link) :
    ((s.waterSweep).links.get k).live = (s.links.get k).live ∧ ((s.waterSweep).links.get k).timer = (s.links.get k).timer ∧
      ((s.waterSweep).links.get k).shortTaken = (s.links.get k).shortTaken ∧ ((s.waterSweep).links.get k).longTaken = (s.links.get k).longTaken ∧
      ((s.waterSweep).links.get k).shortN = (s.links.get k).shortN ∧ ((s.waterSweep).links.get k).longN = (s.links.get k).longN ∧
      ((s.waterSweep).links.get k).rxQueue = (s.links.get k).rxQueue ∧ ((s.waterSweep).links.get k).part = (s.links.get k).part ∧
      ((s.waterSweep).links.get k).batch = (s.links.get k).batch ∧ ((s.waterSweep).links.get k).snapshot = (s.links.get k).snapshot ∧
      ((s.waterSweep).links.get k).mask = (s.links.get k).mask ∧ ((s.waterSweep).links.get k).echo = (s.links.get k).echo := by
  unfold State.waterSweep; (try dsimp only); (repeat' split) <;> simp

@[simp] theorem State.waterSweep_uart  (s : State) :
    ((s.waterSweep).links.get .p).sent = (s.links.get .p).sent ∧
      ((s.waterSweep).links.get .t).sent = (s.links.get .t).sent := by
  unfold State.waterSweep; (try dsimp only); (repeat' split) <;> simp

/-! ### Climate -/

@[simp] theorem State.setHeater_frame (f : Climate → Climate) (s : State) :
    (s.setHeater f).pending = s.pending ∧ (s.setHeater f).phase = s.phase ∧
      (s.setHeater f).mu = s.mu ∧ (s.setHeater f).prev = s.prev ∧
      (s.setHeater f).acct = s.acct ∧ (s.setHeater f).chg = s.chg ∧
      (s.setHeater f).set = s.set ∧ (s.setHeater f).inForce = s.inForce ∧ (s.setHeater f).test = s.test ∧
      (s.setHeater f).reg = s.reg ∧ (s.setHeater f).alloc = s.alloc ∧
      (s.setHeater f).water = s.water ∧ (s.setHeater f).mot = s.mot ∧
      (s.setHeater f).wind = s.wind ∧ (s.setHeater f).light = s.light ∧
      (s.setHeater f).can = s.can ∧ (s.setHeater f).vehicle = s.vehicle ∧
      (s.setHeater f).log = s.log ∧ (s.setHeater f).store = s.store ∧
      (s.setHeater f).handling = s.handling := by
  simp [State.setHeater]

@[simp] theorem State.setHeater_lk (f : Climate → Climate) (s : State) (k : Link) :
    ((s.setHeater f).links.get k).live = (s.links.get k).live ∧ ((s.setHeater f).links.get k).timer = (s.links.get k).timer ∧
      ((s.setHeater f).links.get k).shortTaken = (s.links.get k).shortTaken ∧ ((s.setHeater f).links.get k).longTaken = (s.links.get k).longTaken ∧
      ((s.setHeater f).links.get k).shortN = (s.links.get k).shortN ∧ ((s.setHeater f).links.get k).longN = (s.links.get k).longN ∧
      ((s.setHeater f).links.get k).rxQueue = (s.links.get k).rxQueue ∧ ((s.setHeater f).links.get k).part = (s.links.get k).part ∧
      ((s.setHeater f).links.get k).batch = (s.links.get k).batch ∧ ((s.setHeater f).links.get k).snapshot = (s.links.get k).snapshot ∧
      ((s.setHeater f).links.get k).mask = (s.links.get k).mask ∧ ((s.setHeater f).links.get k).echo = (s.links.get k).echo := by
  simp [State.setHeater]

@[simp] theorem State.setHeater_uart (f : Climate → Climate) (s : State) :
    ((s.setHeater f).links.get .p).sent = (s.links.get .p).sent ∧
      ((s.setHeater f).links.get .t).sent = (s.links.get .t).sent := by
  simp [State.setHeater]

@[simp] theorem State.heaterWait_frame  (s : State) :
    (s.heaterWait).pending = s.pending ∧ (s.heaterWait).phase = s.phase ∧
      (s.heaterWait).mu = s.mu ∧ (s.heaterWait).prev = s.prev ∧
      (s.heaterWait).acct = s.acct ∧ (s.heaterWait).chg = s.chg ∧
      (s.heaterWait).set = s.set ∧ (s.heaterWait).inForce = s.inForce ∧ (s.heaterWait).test = s.test ∧
      (s.heaterWait).reg = s.reg ∧ (s.heaterWait).alloc = s.alloc ∧
      (s.heaterWait).water = s.water ∧ (s.heaterWait).mot = s.mot ∧
      (s.heaterWait).wind = s.wind ∧ (s.heaterWait).light = s.light ∧
      (s.heaterWait).can = s.can ∧ (s.heaterWait).vehicle = s.vehicle ∧
      (s.heaterWait).log = s.log ∧ (s.heaterWait).store = s.store ∧
      (s.heaterWait).handling = s.handling := by
  simp [State.heaterWait]

@[simp] theorem State.heaterWait_lk  (s : State) (k : Link) :
    ((s.heaterWait).links.get k).live = (s.links.get k).live ∧ ((s.heaterWait).links.get k).timer = (s.links.get k).timer ∧
      ((s.heaterWait).links.get k).shortTaken = (s.links.get k).shortTaken ∧ ((s.heaterWait).links.get k).longTaken = (s.links.get k).longTaken ∧
      ((s.heaterWait).links.get k).shortN = (s.links.get k).shortN ∧ ((s.heaterWait).links.get k).longN = (s.links.get k).longN ∧
      ((s.heaterWait).links.get k).rxQueue = (s.links.get k).rxQueue ∧ ((s.heaterWait).links.get k).part = (s.links.get k).part ∧
      ((s.heaterWait).links.get k).batch = (s.links.get k).batch ∧ ((s.heaterWait).links.get k).snapshot = (s.links.get k).snapshot ∧
      ((s.heaterWait).links.get k).mask = (s.links.get k).mask ∧ ((s.heaterWait).links.get k).echo = (s.links.get k).echo := by
  simp [State.heaterWait]

@[simp] theorem State.heaterWait_uart  (s : State) :
    ((s.heaterWait).links.get .p).sent = (s.links.get .p).sent ∧
      ((s.heaterWait).links.get .t).sent = (s.links.get .t).sent := by
  simp [State.heaterWait]

@[simp] theorem State.heaterRest_frame  (s : State) :
    (s.heaterRest).pending = s.pending ∧ (s.heaterRest).phase = s.phase ∧
      (s.heaterRest).mu = s.mu ∧ (s.heaterRest).prev = s.prev ∧
      (s.heaterRest).acct = s.acct ∧ (s.heaterRest).chg = s.chg ∧
      (s.heaterRest).set = s.set ∧ (s.heaterRest).inForce = s.inForce ∧ (s.heaterRest).test = s.test ∧
      (s.heaterRest).reg = s.reg ∧ (s.heaterRest).alloc = s.alloc ∧
      (s.heaterRest).water = s.water ∧ (s.heaterRest).mot = s.mot ∧
      (s.heaterRest).wind = s.wind ∧ (s.heaterRest).light = s.light ∧
      (s.heaterRest).can = s.can ∧ (s.heaterRest).vehicle = s.vehicle ∧
      (s.heaterRest).log = s.log ∧ (s.heaterRest).store = s.store ∧
      (s.heaterRest).handling = s.handling := by
  simp [State.heaterRest]

@[simp] theorem State.heaterRest_lk  (s : State) (k : Link) :
    ((s.heaterRest).links.get k).live = (s.links.get k).live ∧ ((s.heaterRest).links.get k).timer = (s.links.get k).timer ∧
      ((s.heaterRest).links.get k).shortTaken = (s.links.get k).shortTaken ∧ ((s.heaterRest).links.get k).longTaken = (s.links.get k).longTaken ∧
      ((s.heaterRest).links.get k).shortN = (s.links.get k).shortN ∧ ((s.heaterRest).links.get k).longN = (s.links.get k).longN ∧
      ((s.heaterRest).links.get k).rxQueue = (s.links.get k).rxQueue ∧ ((s.heaterRest).links.get k).part = (s.links.get k).part ∧
      ((s.heaterRest).links.get k).batch = (s.links.get k).batch ∧ ((s.heaterRest).links.get k).snapshot = (s.links.get k).snapshot ∧
      ((s.heaterRest).links.get k).mask = (s.links.get k).mask ∧ ((s.heaterRest).links.get k).echo = (s.links.get k).echo := by
  simp [State.heaterRest]

@[simp] theorem State.heaterRest_uart  (s : State) :
    ((s.heaterRest).links.get .p).sent = (s.links.get .p).sent ∧
      ((s.heaterRest).links.get .t).sent = (s.links.get .t).sent := by
  simp [State.heaterRest]

@[simp] theorem State.heaterStart_frame  (s : State) :
    (s.heaterStart).pending = s.pending ∧ (s.heaterStart).phase = s.phase ∧
      (s.heaterStart).mu = s.mu ∧ (s.heaterStart).prev = s.prev ∧
      (s.heaterStart).acct = s.acct ∧ (s.heaterStart).chg = s.chg ∧
      (s.heaterStart).set = s.set ∧ (s.heaterStart).inForce = s.inForce ∧ (s.heaterStart).test = s.test ∧
      (s.heaterStart).reg = s.reg ∧ (s.heaterStart).alloc = s.alloc ∧
      (s.heaterStart).water = s.water ∧ (s.heaterStart).mot = s.mot ∧
      (s.heaterStart).wind = s.wind ∧ (s.heaterStart).light = s.light ∧
      (s.heaterStart).can = s.can ∧ (s.heaterStart).vehicle = s.vehicle ∧
      (s.heaterStart).log = s.log ∧ (s.heaterStart).store = s.store ∧
      (s.heaterStart).handling = s.handling := by
  simp [State.heaterStart]

@[simp] theorem State.heaterStart_lk  (s : State) (k : Link) :
    ((s.heaterStart).links.get k).live = (s.links.get k).live ∧ ((s.heaterStart).links.get k).timer = (s.links.get k).timer ∧
      ((s.heaterStart).links.get k).shortTaken = (s.links.get k).shortTaken ∧ ((s.heaterStart).links.get k).longTaken = (s.links.get k).longTaken ∧
      ((s.heaterStart).links.get k).shortN = (s.links.get k).shortN ∧ ((s.heaterStart).links.get k).longN = (s.links.get k).longN ∧
      ((s.heaterStart).links.get k).rxQueue = (s.links.get k).rxQueue ∧ ((s.heaterStart).links.get k).part = (s.links.get k).part ∧
      ((s.heaterStart).links.get k).batch = (s.links.get k).batch ∧ ((s.heaterStart).links.get k).snapshot = (s.links.get k).snapshot ∧
      ((s.heaterStart).links.get k).mask = (s.links.get k).mask ∧ ((s.heaterStart).links.get k).echo = (s.links.get k).echo := by
  simp [State.heaterStart]

@[simp] theorem State.heaterStart_uart  (s : State) :
    ((s.heaterStart).links.get .p).sent = (s.links.get .p).sent ∧
      ((s.heaterStart).links.get .t).sent = (s.links.get .t).sent := by
  simp [State.heaterStart]

@[simp] theorem State.heaterRun_frame  (s : State) :
    (s.heaterRun).pending = s.pending ∧ (s.heaterRun).phase = s.phase ∧
      (s.heaterRun).mu = s.mu ∧ (s.heaterRun).prev = s.prev ∧
      (s.heaterRun).acct = s.acct ∧ (s.heaterRun).chg = s.chg ∧
      (s.heaterRun).set = s.set ∧ (s.heaterRun).inForce = s.inForce ∧ (s.heaterRun).test = s.test ∧
      (s.heaterRun).reg = s.reg ∧ (s.heaterRun).alloc = s.alloc ∧
      (s.heaterRun).water = s.water ∧ (s.heaterRun).mot = s.mot ∧
      (s.heaterRun).wind = s.wind ∧ (s.heaterRun).light = s.light ∧
      (s.heaterRun).can = s.can ∧ (s.heaterRun).vehicle = s.vehicle ∧
      (s.heaterRun).log = s.log ∧ (s.heaterRun).store = s.store ∧
      (s.heaterRun).handling = s.handling := by
  simp [State.heaterRun]

@[simp] theorem State.heaterRun_lk  (s : State) (k : Link) :
    ((s.heaterRun).links.get k).live = (s.links.get k).live ∧ ((s.heaterRun).links.get k).timer = (s.links.get k).timer ∧
      ((s.heaterRun).links.get k).shortTaken = (s.links.get k).shortTaken ∧ ((s.heaterRun).links.get k).longTaken = (s.links.get k).longTaken ∧
      ((s.heaterRun).links.get k).shortN = (s.links.get k).shortN ∧ ((s.heaterRun).links.get k).longN = (s.links.get k).longN ∧
      ((s.heaterRun).links.get k).rxQueue = (s.links.get k).rxQueue ∧ ((s.heaterRun).links.get k).part = (s.links.get k).part ∧
      ((s.heaterRun).links.get k).batch = (s.links.get k).batch ∧ ((s.heaterRun).links.get k).snapshot = (s.links.get k).snapshot ∧
      ((s.heaterRun).links.get k).mask = (s.links.get k).mask ∧ ((s.heaterRun).links.get k).echo = (s.links.get k).echo := by
  simp [State.heaterRun]

@[simp] theorem State.heaterRun_uart  (s : State) :
    ((s.heaterRun).links.get .p).sent = (s.links.get .p).sent ∧
      ((s.heaterRun).links.get .t).sent = (s.links.get .t).sent := by
  simp [State.heaterRun]

@[simp] theorem State.heaterOff_frame  (s : State) :
    (s.heaterOff).pending = s.pending ∧ (s.heaterOff).phase = s.phase ∧
      (s.heaterOff).mu = s.mu ∧ (s.heaterOff).prev = s.prev ∧
      (s.heaterOff).acct = s.acct ∧ (s.heaterOff).chg = s.chg ∧
      (s.heaterOff).set = s.set ∧ (s.heaterOff).inForce = s.inForce ∧ (s.heaterOff).test = s.test ∧
      (s.heaterOff).reg = s.reg ∧ (s.heaterOff).alloc = s.alloc ∧
      (s.heaterOff).water = s.water ∧ (s.heaterOff).mot = s.mot ∧
      (s.heaterOff).wind = s.wind ∧ (s.heaterOff).light = s.light ∧
      (s.heaterOff).can = s.can ∧ (s.heaterOff).vehicle = s.vehicle ∧
      (s.heaterOff).log = s.log ∧ (s.heaterOff).store = s.store ∧
      (s.heaterOff).handling = s.handling := by
  unfold State.heaterOff; (try dsimp only); (repeat' split) <;> simp

@[simp] theorem State.heaterOff_lk  (s : State) (k : Link) :
    ((s.heaterOff).links.get k).live = (s.links.get k).live ∧ ((s.heaterOff).links.get k).timer = (s.links.get k).timer ∧
      ((s.heaterOff).links.get k).shortTaken = (s.links.get k).shortTaken ∧ ((s.heaterOff).links.get k).longTaken = (s.links.get k).longTaken ∧
      ((s.heaterOff).links.get k).shortN = (s.links.get k).shortN ∧ ((s.heaterOff).links.get k).longN = (s.links.get k).longN ∧
      ((s.heaterOff).links.get k).rxQueue = (s.links.get k).rxQueue ∧ ((s.heaterOff).links.get k).part = (s.links.get k).part ∧
      ((s.heaterOff).links.get k).batch = (s.links.get k).batch ∧ ((s.heaterOff).links.get k).snapshot = (s.links.get k).snapshot ∧
      ((s.heaterOff).links.get k).mask = (s.links.get k).mask ∧ ((s.heaterOff).links.get k).echo = (s.links.get k).echo := by
  unfold State.heaterOff; (try dsimp only); (repeat' split) <;> simp

@[simp] theorem State.heaterOff_uart  (s : State) :
    ((s.heaterOff).links.get .p).sent = (s.links.get .p).sent ∧
      ((s.heaterOff).links.get .t).sent = (s.links.get .t).sent := by
  unfold State.heaterOff; (try dsimp only); (repeat' split) <;> simp

@[simp] theorem State.heaterCool_frame (m : Bool) (n : Nat) (s : State) :
    (s.heaterCool m n).pending = s.pending ∧ (s.heaterCool m n).phase = s.phase ∧
      (s.heaterCool m n).mu = s.mu ∧ (s.heaterCool m n).prev = s.prev ∧
      (s.heaterCool m n).acct = s.acct ∧ (s.heaterCool m n).chg = s.chg ∧
      (s.heaterCool m n).set = s.set ∧ (s.heaterCool m n).inForce = s.inForce ∧ (s.heaterCool m n).test = s.test ∧
      (s.heaterCool m n).reg = s.reg ∧ (s.heaterCool m n).alloc = s.alloc ∧
      (s.heaterCool m n).water = s.water ∧ (s.heaterCool m n).mot = s.mot ∧
      (s.heaterCool m n).wind = s.wind ∧ (s.heaterCool m n).light = s.light ∧
      (s.heaterCool m n).can = s.can ∧ (s.heaterCool m n).vehicle = s.vehicle ∧
      (s.heaterCool m n).log = s.log ∧ (s.heaterCool m n).store = s.store ∧
      (s.heaterCool m n).handling = s.handling := by
  simp [State.heaterCool]

@[simp] theorem State.heaterCool_lk (m : Bool) (n : Nat) (s : State) (k : Link) :
    ((s.heaterCool m n).links.get k).live = (s.links.get k).live ∧ ((s.heaterCool m n).links.get k).timer = (s.links.get k).timer ∧
      ((s.heaterCool m n).links.get k).shortTaken = (s.links.get k).shortTaken ∧ ((s.heaterCool m n).links.get k).longTaken = (s.links.get k).longTaken ∧
      ((s.heaterCool m n).links.get k).shortN = (s.links.get k).shortN ∧ ((s.heaterCool m n).links.get k).longN = (s.links.get k).longN ∧
      ((s.heaterCool m n).links.get k).rxQueue = (s.links.get k).rxQueue ∧ ((s.heaterCool m n).links.get k).part = (s.links.get k).part ∧
      ((s.heaterCool m n).links.get k).batch = (s.links.get k).batch ∧ ((s.heaterCool m n).links.get k).snapshot = (s.links.get k).snapshot ∧
      ((s.heaterCool m n).links.get k).mask = (s.links.get k).mask ∧ ((s.heaterCool m n).links.get k).echo = (s.links.get k).echo := by
  simp [State.heaterCool]

@[simp] theorem State.heaterCool_uart (m : Bool) (n : Nat) (s : State) :
    ((s.heaterCool m n).links.get .p).sent = (s.links.get .p).sent ∧
      ((s.heaterCool m n).links.get .t).sent = (s.links.get .t).sent := by
  simp [State.heaterCool]

@[simp] theorem State.heaterLockout_frame  (s : State) :
    (s.heaterLockout).pending = s.pending ∧ (s.heaterLockout).phase = s.phase ∧
      (s.heaterLockout).mu = s.mu ∧ (s.heaterLockout).prev = s.prev ∧
      (s.heaterLockout).acct = s.acct ∧ (s.heaterLockout).chg = s.chg ∧
      (s.heaterLockout).set = s.set ∧ (s.heaterLockout).inForce = s.inForce ∧ (s.heaterLockout).test = s.test ∧
      (s.heaterLockout).reg = s.reg ∧ (s.heaterLockout).alloc = s.alloc ∧
      (s.heaterLockout).water = s.water ∧ (s.heaterLockout).mot = s.mot ∧
      (s.heaterLockout).wind = s.wind ∧ (s.heaterLockout).light = s.light ∧
      (s.heaterLockout).can = s.can ∧ (s.heaterLockout).vehicle = s.vehicle ∧
      (s.heaterLockout).store = s.store ∧ (s.heaterLockout).handling = s.handling := by
  unfold State.heaterLockout; (try dsimp only); (repeat' split) <;> simp

@[simp] theorem State.heaterLockout_lk  (s : State) (k : Link) :
    ((s.heaterLockout).links.get k).live = (s.links.get k).live ∧ ((s.heaterLockout).links.get k).timer = (s.links.get k).timer ∧
      ((s.heaterLockout).links.get k).shortTaken = (s.links.get k).shortTaken ∧ ((s.heaterLockout).links.get k).longTaken = (s.links.get k).longTaken ∧
      ((s.heaterLockout).links.get k).shortN = (s.links.get k).shortN ∧ ((s.heaterLockout).links.get k).longN = (s.links.get k).longN ∧
      ((s.heaterLockout).links.get k).rxQueue = (s.links.get k).rxQueue ∧ ((s.heaterLockout).links.get k).part = (s.links.get k).part ∧
      ((s.heaterLockout).links.get k).batch = (s.links.get k).batch ∧ ((s.heaterLockout).links.get k).snapshot = (s.links.get k).snapshot ∧
      ((s.heaterLockout).links.get k).mask = (s.links.get k).mask ∧ ((s.heaterLockout).links.get k).echo = (s.links.get k).echo := by
  unfold State.heaterLockout; (try dsimp only); (repeat' split) <;> simp

@[simp] theorem State.heaterLockout_uart  (s : State) :
    ((s.heaterLockout).links.get .p).sent = (s.links.get .p).sent ∧
      ((s.heaterLockout).links.get .t).sent = (s.links.get .t).sent := by
  unfold State.heaterLockout; (try dsimp only); (repeat' split) <;> simp

@[simp] theorem State.heaterCoolEnd_frame  (s : State) :
    (s.heaterCoolEnd).pending = s.pending ∧ (s.heaterCoolEnd).phase = s.phase ∧
      (s.heaterCoolEnd).mu = s.mu ∧ (s.heaterCoolEnd).prev = s.prev ∧
      (s.heaterCoolEnd).acct = s.acct ∧ (s.heaterCoolEnd).chg = s.chg ∧
      (s.heaterCoolEnd).set = s.set ∧ (s.heaterCoolEnd).inForce = s.inForce ∧ (s.heaterCoolEnd).test = s.test ∧
      (s.heaterCoolEnd).reg = s.reg ∧ (s.heaterCoolEnd).alloc = s.alloc ∧
      (s.heaterCoolEnd).water = s.water ∧ (s.heaterCoolEnd).mot = s.mot ∧
      (s.heaterCoolEnd).wind = s.wind ∧ (s.heaterCoolEnd).light = s.light ∧
      (s.heaterCoolEnd).can = s.can ∧ (s.heaterCoolEnd).vehicle = s.vehicle ∧
      (s.heaterCoolEnd).store = s.store ∧ (s.heaterCoolEnd).handling = s.handling := by
  unfold State.heaterCoolEnd; (try dsimp only); (repeat' split) <;> simp

@[simp] theorem State.heaterCoolEnd_lk  (s : State) (k : Link) :
    ((s.heaterCoolEnd).links.get k).live = (s.links.get k).live ∧ ((s.heaterCoolEnd).links.get k).timer = (s.links.get k).timer ∧
      ((s.heaterCoolEnd).links.get k).shortTaken = (s.links.get k).shortTaken ∧ ((s.heaterCoolEnd).links.get k).longTaken = (s.links.get k).longTaken ∧
      ((s.heaterCoolEnd).links.get k).shortN = (s.links.get k).shortN ∧ ((s.heaterCoolEnd).links.get k).longN = (s.links.get k).longN ∧
      ((s.heaterCoolEnd).links.get k).rxQueue = (s.links.get k).rxQueue ∧ ((s.heaterCoolEnd).links.get k).part = (s.links.get k).part ∧
      ((s.heaterCoolEnd).links.get k).batch = (s.links.get k).batch ∧ ((s.heaterCoolEnd).links.get k).snapshot = (s.links.get k).snapshot ∧
      ((s.heaterCoolEnd).links.get k).mask = (s.links.get k).mask ∧ ((s.heaterCoolEnd).links.get k).echo = (s.links.get k).echo := by
  unfold State.heaterCoolEnd; (try dsimp only); (repeat' split) <;> simp

@[simp] theorem State.heaterCoolEnd_uart  (s : State) :
    ((s.heaterCoolEnd).links.get .p).sent = (s.links.get .p).sent ∧
      ((s.heaterCoolEnd).links.get .t).sent = (s.links.get .t).sent := by
  unfold State.heaterCoolEnd; (try dsimp only); (repeat' split) <;> simp

@[simp] theorem State.heaterCut_frame  (s : State) :
    (s.heaterCut).pending = s.pending ∧ (s.heaterCut).phase = s.phase ∧
      (s.heaterCut).mu = s.mu ∧ (s.heaterCut).prev = s.prev ∧
      (s.heaterCut).acct = s.acct ∧ (s.heaterCut).chg = s.chg ∧
      (s.heaterCut).set = s.set ∧ (s.heaterCut).inForce = s.inForce ∧ (s.heaterCut).test = s.test ∧
      (s.heaterCut).reg = s.reg ∧ (s.heaterCut).alloc = s.alloc ∧
      (s.heaterCut).water = s.water ∧ (s.heaterCut).mot = s.mot ∧
      (s.heaterCut).wind = s.wind ∧ (s.heaterCut).light = s.light ∧
      (s.heaterCut).can = s.can ∧ (s.heaterCut).vehicle = s.vehicle ∧
      (s.heaterCut).store = s.store ∧ (s.heaterCut).handling = s.handling := by
  unfold State.heaterCut; (try dsimp only); (repeat' split) <;> simp

@[simp] theorem State.heaterCut_lk  (s : State) (k : Link) :
    ((s.heaterCut).links.get k).live = (s.links.get k).live ∧ ((s.heaterCut).links.get k).timer = (s.links.get k).timer ∧
      ((s.heaterCut).links.get k).shortTaken = (s.links.get k).shortTaken ∧ ((s.heaterCut).links.get k).longTaken = (s.links.get k).longTaken ∧
      ((s.heaterCut).links.get k).shortN = (s.links.get k).shortN ∧ ((s.heaterCut).links.get k).longN = (s.links.get k).longN ∧
      ((s.heaterCut).links.get k).rxQueue = (s.links.get k).rxQueue ∧ ((s.heaterCut).links.get k).part = (s.links.get k).part ∧
      ((s.heaterCut).links.get k).batch = (s.links.get k).batch ∧ ((s.heaterCut).links.get k).snapshot = (s.links.get k).snapshot ∧
      ((s.heaterCut).links.get k).mask = (s.links.get k).mask ∧ ((s.heaterCut).links.get k).echo = (s.links.get k).echo := by
  unfold State.heaterCut; (try dsimp only); (repeat' split) <;> simp

@[simp] theorem State.heaterCut_uart  (s : State) :
    ((s.heaterCut).links.get .p).sent = (s.links.get .p).sent ∧
      ((s.heaterCut).links.get .t).sent = (s.links.get .t).sent := by
  unfold State.heaterCut; (try dsimp only); (repeat' split) <;> simp

@[simp] theorem State.grantNotice_frame  (s : State) :
    (s.grantNotice).pending = s.pending ∧ (s.grantNotice).phase = s.phase ∧
      (s.grantNotice).mu = s.mu ∧ (s.grantNotice).prev = s.prev ∧
      (s.grantNotice).acct = s.acct ∧ (s.grantNotice).chg = s.chg ∧
      (s.grantNotice).set = s.set ∧ (s.grantNotice).inForce = s.inForce ∧ (s.grantNotice).test = s.test ∧
      (s.grantNotice).reg = s.reg ∧ (s.grantNotice).alloc = s.alloc ∧
      (s.grantNotice).water = s.water ∧ (s.grantNotice).mot = s.mot ∧
      (s.grantNotice).wind = s.wind ∧ (s.grantNotice).light = s.light ∧
      (s.grantNotice).can = s.can ∧ (s.grantNotice).vehicle = s.vehicle ∧
      (s.grantNotice).log = s.log ∧ (s.grantNotice).store = s.store ∧
      (s.grantNotice).handling = s.handling := by
  unfold State.grantNotice; (try dsimp only); (repeat' split) <;> simp

@[simp] theorem State.grantNotice_lk  (s : State) (k : Link) :
    ((s.grantNotice).links.get k).live = (s.links.get k).live ∧ ((s.grantNotice).links.get k).timer = (s.links.get k).timer ∧
      ((s.grantNotice).links.get k).shortTaken = (s.links.get k).shortTaken ∧ ((s.grantNotice).links.get k).longTaken = (s.links.get k).longTaken ∧
      ((s.grantNotice).links.get k).shortN = (s.links.get k).shortN ∧ ((s.grantNotice).links.get k).longN = (s.links.get k).longN ∧
      ((s.grantNotice).links.get k).rxQueue = (s.links.get k).rxQueue ∧ ((s.grantNotice).links.get k).part = (s.links.get k).part ∧
      ((s.grantNotice).links.get k).batch = (s.links.get k).batch ∧ ((s.grantNotice).links.get k).snapshot = (s.links.get k).snapshot ∧
      ((s.grantNotice).links.get k).mask = (s.links.get k).mask ∧ ((s.grantNotice).links.get k).echo = (s.links.get k).echo := by
  unfold State.grantNotice; (try dsimp only); (repeat' split) <;> simp

@[simp] theorem State.grantNotice_uart  (s : State) :
    ((s.grantNotice).links.get .p).sent = (s.links.get .p).sent ∧
      ((s.grantNotice).links.get .t).sent = (s.links.get .t).sent := by
  unfold State.grantNotice; (try dsimp only); (repeat' split) <;> simp

@[simp] theorem State.shedNotice_frame  (s : State) :
    (s.shedNotice).pending = s.pending ∧ (s.shedNotice).phase = s.phase ∧
      (s.shedNotice).mu = s.mu ∧ (s.shedNotice).prev = s.prev ∧
      (s.shedNotice).acct = s.acct ∧ (s.shedNotice).chg = s.chg ∧
      (s.shedNotice).set = s.set ∧ (s.shedNotice).inForce = s.inForce ∧ (s.shedNotice).test = s.test ∧
      (s.shedNotice).reg = s.reg ∧ (s.shedNotice).alloc = s.alloc ∧
      (s.shedNotice).water = s.water ∧ (s.shedNotice).mot = s.mot ∧
      (s.shedNotice).wind = s.wind ∧ (s.shedNotice).light = s.light ∧
      (s.shedNotice).can = s.can ∧ (s.shedNotice).vehicle = s.vehicle ∧
      (s.shedNotice).log = s.log ∧ (s.shedNotice).store = s.store ∧
      (s.shedNotice).handling = s.handling := by
  unfold State.shedNotice; (try dsimp only); (repeat' split) <;> simp

@[simp] theorem State.shedNotice_lk  (s : State) (k : Link) :
    ((s.shedNotice).links.get k).live = (s.links.get k).live ∧ ((s.shedNotice).links.get k).timer = (s.links.get k).timer ∧
      ((s.shedNotice).links.get k).shortTaken = (s.links.get k).shortTaken ∧ ((s.shedNotice).links.get k).longTaken = (s.links.get k).longTaken ∧
      ((s.shedNotice).links.get k).shortN = (s.links.get k).shortN ∧ ((s.shedNotice).links.get k).longN = (s.links.get k).longN ∧
      ((s.shedNotice).links.get k).rxQueue = (s.links.get k).rxQueue ∧ ((s.shedNotice).links.get k).part = (s.links.get k).part ∧
      ((s.shedNotice).links.get k).batch = (s.links.get k).batch ∧ ((s.shedNotice).links.get k).snapshot = (s.links.get k).snapshot ∧
      ((s.shedNotice).links.get k).mask = (s.links.get k).mask ∧ ((s.shedNotice).links.get k).echo = (s.links.get k).echo := by
  unfold State.shedNotice; (try dsimp only); (repeat' split) <;> simp

@[simp] theorem State.shedNotice_uart  (s : State) :
    ((s.shedNotice).links.get .p).sent = (s.links.get .p).sent ∧
      ((s.shedNotice).links.get .t).sent = (s.links.get .t).sent := by
  unfold State.shedNotice; (try dsimp only); (repeat' split) <;> simp

@[simp] theorem State.heaterModeOff_frame  (s : State) :
    (s.heaterModeOff).pending = s.pending ∧ (s.heaterModeOff).phase = s.phase ∧
      (s.heaterModeOff).mu = s.mu ∧ (s.heaterModeOff).prev = s.prev ∧
      (s.heaterModeOff).acct = s.acct ∧ (s.heaterModeOff).chg = s.chg ∧
      (s.heaterModeOff).set = s.set ∧ (s.heaterModeOff).inForce = s.inForce ∧ (s.heaterModeOff).test = s.test ∧
      (s.heaterModeOff).reg = s.reg ∧ (s.heaterModeOff).alloc = s.alloc ∧
      (s.heaterModeOff).water = s.water ∧ (s.heaterModeOff).mot = s.mot ∧
      (s.heaterModeOff).wind = s.wind ∧ (s.heaterModeOff).light = s.light ∧
      (s.heaterModeOff).can = s.can ∧ (s.heaterModeOff).vehicle = s.vehicle ∧
      (s.heaterModeOff).log = s.log ∧ (s.heaterModeOff).store = s.store ∧
      (s.heaterModeOff).handling = s.handling := by
  unfold State.heaterModeOff; (try dsimp only); (repeat' split) <;> simp

@[simp] theorem State.heaterModeOff_lk  (s : State) (k : Link) :
    ((s.heaterModeOff).links.get k).live = (s.links.get k).live ∧ ((s.heaterModeOff).links.get k).timer = (s.links.get k).timer ∧
      ((s.heaterModeOff).links.get k).shortTaken = (s.links.get k).shortTaken ∧ ((s.heaterModeOff).links.get k).longTaken = (s.links.get k).longTaken ∧
      ((s.heaterModeOff).links.get k).shortN = (s.links.get k).shortN ∧ ((s.heaterModeOff).links.get k).longN = (s.links.get k).longN ∧
      ((s.heaterModeOff).links.get k).rxQueue = (s.links.get k).rxQueue ∧ ((s.heaterModeOff).links.get k).part = (s.links.get k).part ∧
      ((s.heaterModeOff).links.get k).batch = (s.links.get k).batch ∧ ((s.heaterModeOff).links.get k).snapshot = (s.links.get k).snapshot ∧
      ((s.heaterModeOff).links.get k).mask = (s.links.get k).mask ∧ ((s.heaterModeOff).links.get k).echo = (s.links.get k).echo := by
  unfold State.heaterModeOff; (try dsimp only); (repeat' split) <;> simp

@[simp] theorem State.heaterModeOff_uart  (s : State) :
    ((s.heaterModeOff).links.get .p).sent = (s.links.get .p).sent ∧
      ((s.heaterModeOff).links.get .t).sent = (s.links.get .t).sent := by
  unfold State.heaterModeOff; (try dsimp only); (repeat' split) <;> simp

@[simp] theorem State.handHeatMode_frame (m : HeatMode) (w : WantedBy) (s : State) :
    (s.handHeatMode m w).pending = s.pending ∧ (s.handHeatMode m w).phase = s.phase ∧
      (s.handHeatMode m w).mu = s.mu ∧ (s.handHeatMode m w).prev = s.prev ∧
      (s.handHeatMode m w).acct = s.acct ∧ (s.handHeatMode m w).chg = s.chg ∧
      (s.handHeatMode m w).set = s.set ∧ (s.handHeatMode m w).inForce = s.inForce ∧ (s.handHeatMode m w).test = s.test ∧
      (s.handHeatMode m w).reg = s.reg ∧ (s.handHeatMode m w).alloc = s.alloc ∧
      (s.handHeatMode m w).water = s.water ∧ (s.handHeatMode m w).mot = s.mot ∧
      (s.handHeatMode m w).wind = s.wind ∧ (s.handHeatMode m w).light = s.light ∧
      (s.handHeatMode m w).can = s.can ∧ (s.handHeatMode m w).vehicle = s.vehicle ∧
      (s.handHeatMode m w).log = s.log ∧ (s.handHeatMode m w).store = s.store ∧
      (s.handHeatMode m w).handling = s.handling := by
  unfold State.handHeatMode; (try dsimp only); (repeat' split) <;> simp

@[simp] theorem State.handHeatMode_lk (m : HeatMode) (w : WantedBy) (s : State) (k : Link) :
    ((s.handHeatMode m w).links.get k).live = (s.links.get k).live ∧ ((s.handHeatMode m w).links.get k).timer = (s.links.get k).timer ∧
      ((s.handHeatMode m w).links.get k).shortTaken = (s.links.get k).shortTaken ∧ ((s.handHeatMode m w).links.get k).longTaken = (s.links.get k).longTaken ∧
      ((s.handHeatMode m w).links.get k).shortN = (s.links.get k).shortN ∧ ((s.handHeatMode m w).links.get k).longN = (s.links.get k).longN ∧
      ((s.handHeatMode m w).links.get k).rxQueue = (s.links.get k).rxQueue ∧ ((s.handHeatMode m w).links.get k).part = (s.links.get k).part ∧
      ((s.handHeatMode m w).links.get k).batch = (s.links.get k).batch ∧ ((s.handHeatMode m w).links.get k).snapshot = (s.links.get k).snapshot ∧
      ((s.handHeatMode m w).links.get k).mask = (s.links.get k).mask ∧ ((s.handHeatMode m w).links.get k).echo = (s.links.get k).echo := by
  unfold State.handHeatMode; (try dsimp only); (repeat' split) <;> simp

@[simp] theorem State.handHeatMode_uart (m : HeatMode) (w : WantedBy) (s : State) :
    ((s.handHeatMode m w).links.get .p).sent = (s.links.get .p).sent ∧
      ((s.handHeatMode m w).links.get .t).sent = (s.links.get .t).sent := by
  unfold State.handHeatMode; (try dsimp only); (repeat' split) <;> simp

@[simp] theorem State.handSetpoint_frame (v : Nat) (w : WantedBy) (s : State) :
    (s.handSetpoint v w).pending = s.pending ∧ (s.handSetpoint v w).phase = s.phase ∧
      (s.handSetpoint v w).mu = s.mu ∧ (s.handSetpoint v w).prev = s.prev ∧
      (s.handSetpoint v w).acct = s.acct ∧ (s.handSetpoint v w).chg = s.chg ∧
      (s.handSetpoint v w).set = s.set ∧ (s.handSetpoint v w).inForce = s.inForce ∧ (s.handSetpoint v w).tab = s.tab ∧
      (s.handSetpoint v w).test = s.test ∧ (s.handSetpoint v w).reg = s.reg ∧
      (s.handSetpoint v w).alloc = s.alloc ∧ (s.handSetpoint v w).water = s.water ∧
      (s.handSetpoint v w).mot = s.mot ∧ (s.handSetpoint v w).wind = s.wind ∧
      (s.handSetpoint v w).light = s.light ∧ (s.handSetpoint v w).links = s.links ∧
      (s.handSetpoint v w).can = s.can ∧ (s.handSetpoint v w).vehicle = s.vehicle ∧
      (s.handSetpoint v w).log = s.log ∧ (s.handSetpoint v w).store = s.store ∧
      (s.handSetpoint v w).handling = s.handling := by
  simp [State.handSetpoint]

@[simp] theorem State.openDrain_frame (c : OpenCause) (s : State) :
    (s.openDrain c).pending = s.pending ∧ (s.openDrain c).phase = s.phase ∧
      (s.openDrain c).mu = s.mu ∧ (s.openDrain c).prev = s.prev ∧
      (s.openDrain c).acct = s.acct ∧ (s.openDrain c).chg = s.chg ∧
      (s.openDrain c).set = s.set ∧ (s.openDrain c).inForce = s.inForce ∧ (s.openDrain c).test = s.test ∧
      (s.openDrain c).reg = s.reg ∧ (s.openDrain c).alloc = s.alloc ∧
      (s.openDrain c).mot = s.mot ∧ (s.openDrain c).wind = s.wind ∧
      (s.openDrain c).light = s.light ∧ (s.openDrain c).can = s.can ∧
      (s.openDrain c).vehicle = s.vehicle ∧ (s.openDrain c).store = s.store ∧
      (s.openDrain c).handling = s.handling := by
  unfold State.openDrain; (try dsimp only); (repeat' split) <;> simp

@[simp] theorem State.openDrain_lk (c : OpenCause) (s : State) (k : Link) :
    ((s.openDrain c).links.get k).live = (s.links.get k).live ∧ ((s.openDrain c).links.get k).timer = (s.links.get k).timer ∧
      ((s.openDrain c).links.get k).shortTaken = (s.links.get k).shortTaken ∧ ((s.openDrain c).links.get k).longTaken = (s.links.get k).longTaken ∧
      ((s.openDrain c).links.get k).shortN = (s.links.get k).shortN ∧ ((s.openDrain c).links.get k).longN = (s.links.get k).longN ∧
      ((s.openDrain c).links.get k).rxQueue = (s.links.get k).rxQueue ∧ ((s.openDrain c).links.get k).part = (s.links.get k).part ∧
      ((s.openDrain c).links.get k).batch = (s.links.get k).batch ∧ ((s.openDrain c).links.get k).snapshot = (s.links.get k).snapshot ∧
      ((s.openDrain c).links.get k).mask = (s.links.get k).mask ∧ ((s.openDrain c).links.get k).echo = (s.links.get k).echo := by
  unfold State.openDrain; (try dsimp only); (repeat' split) <;> simp

@[simp] theorem State.openDrain_uart (c : OpenCause) (s : State) :
    ((s.openDrain c).links.get .p).sent = (s.links.get .p).sent ∧
      ((s.openDrain c).links.get .t).sent = (s.links.get .t).sent := by
  unfold State.openDrain; (try dsimp only); (repeat' split) <;> simp

@[simp] theorem State.shutDrain_frame  (s : State) :
    (s.shutDrain).pending = s.pending ∧ (s.shutDrain).phase = s.phase ∧
      (s.shutDrain).mu = s.mu ∧ (s.shutDrain).prev = s.prev ∧
      (s.shutDrain).acct = s.acct ∧ (s.shutDrain).chg = s.chg ∧
      (s.shutDrain).set = s.set ∧ (s.shutDrain).inForce = s.inForce ∧ (s.shutDrain).test = s.test ∧
      (s.shutDrain).reg = s.reg ∧ (s.shutDrain).alloc = s.alloc ∧
      (s.shutDrain).mot = s.mot ∧ (s.shutDrain).wind = s.wind ∧
      (s.shutDrain).light = s.light ∧ (s.shutDrain).can = s.can ∧
      (s.shutDrain).vehicle = s.vehicle ∧ (s.shutDrain).log = s.log ∧
      (s.shutDrain).store = s.store ∧ (s.shutDrain).handling = s.handling := by
  simp [State.shutDrain]

@[simp] theorem State.shutDrain_lk  (s : State) (k : Link) :
    ((s.shutDrain).links.get k).live = (s.links.get k).live ∧ ((s.shutDrain).links.get k).timer = (s.links.get k).timer ∧
      ((s.shutDrain).links.get k).shortTaken = (s.links.get k).shortTaken ∧ ((s.shutDrain).links.get k).longTaken = (s.links.get k).longTaken ∧
      ((s.shutDrain).links.get k).shortN = (s.links.get k).shortN ∧ ((s.shutDrain).links.get k).longN = (s.links.get k).longN ∧
      ((s.shutDrain).links.get k).rxQueue = (s.links.get k).rxQueue ∧ ((s.shutDrain).links.get k).part = (s.links.get k).part ∧
      ((s.shutDrain).links.get k).batch = (s.links.get k).batch ∧ ((s.shutDrain).links.get k).snapshot = (s.links.get k).snapshot ∧
      ((s.shutDrain).links.get k).mask = (s.links.get k).mask ∧ ((s.shutDrain).links.get k).echo = (s.links.get k).echo := by
  simp [State.shutDrain]

@[simp] theorem State.shutDrain_uart  (s : State) :
    ((s.shutDrain).links.get .p).sent = (s.links.get .p).sent ∧
      ((s.shutDrain).links.get .t).sent = (s.links.get .t).sent := by
  simp [State.shutDrain]

@[simp] theorem State.climateCut_frame  (s : State) :
    (s.climateCut).pending = s.pending ∧ (s.climateCut).phase = s.phase ∧
      (s.climateCut).mu = s.mu ∧ (s.climateCut).prev = s.prev ∧
      (s.climateCut).acct = s.acct ∧ (s.climateCut).chg = s.chg ∧
      (s.climateCut).set = s.set ∧ (s.climateCut).inForce = s.inForce ∧ (s.climateCut).test = s.test ∧
      (s.climateCut).reg = s.reg ∧ (s.climateCut).alloc = s.alloc ∧
      (s.climateCut).mot = s.mot ∧ (s.climateCut).wind = s.wind ∧
      (s.climateCut).light = s.light ∧ (s.climateCut).can = s.can ∧
      (s.climateCut).vehicle = s.vehicle ∧ (s.climateCut).store = s.store ∧
      (s.climateCut).handling = s.handling := by
  simp [State.climateCut]

@[simp] theorem State.climateCut_lk  (s : State) (k : Link) :
    ((s.climateCut).links.get k).live = (s.links.get k).live ∧ ((s.climateCut).links.get k).timer = (s.links.get k).timer ∧
      ((s.climateCut).links.get k).shortTaken = (s.links.get k).shortTaken ∧ ((s.climateCut).links.get k).longTaken = (s.links.get k).longTaken ∧
      ((s.climateCut).links.get k).shortN = (s.links.get k).shortN ∧ ((s.climateCut).links.get k).longN = (s.links.get k).longN ∧
      ((s.climateCut).links.get k).rxQueue = (s.links.get k).rxQueue ∧ ((s.climateCut).links.get k).part = (s.links.get k).part ∧
      ((s.climateCut).links.get k).batch = (s.links.get k).batch ∧ ((s.climateCut).links.get k).snapshot = (s.links.get k).snapshot ∧
      ((s.climateCut).links.get k).mask = (s.links.get k).mask ∧ ((s.climateCut).links.get k).echo = (s.links.get k).echo := by
  simp [State.climateCut]

@[simp] theorem State.climateCut_uart  (s : State) :
    ((s.climateCut).links.get .p).sent = (s.links.get .p).sent ∧
      ((s.climateCut).links.get .t).sent = (s.links.get .t).sent := by
  simp [State.climateCut]

@[simp] theorem State.climateStep1_frame  (s : State) :
    (s.climateStep1).pending = s.pending ∧ (s.climateStep1).phase = s.phase ∧
      (s.climateStep1).mu = s.mu ∧ (s.climateStep1).prev = s.prev ∧
      (s.climateStep1).acct = s.acct ∧ (s.climateStep1).chg = s.chg ∧
      (s.climateStep1).set = s.set ∧ (s.climateStep1).inForce = s.inForce ∧ (s.climateStep1).tab = s.tab ∧
      (s.climateStep1).test = s.test ∧ (s.climateStep1).reg = s.reg ∧
      (s.climateStep1).alloc = s.alloc ∧ (s.climateStep1).water = s.water ∧
      (s.climateStep1).mot = s.mot ∧ (s.climateStep1).wind = s.wind ∧
      (s.climateStep1).light = s.light ∧ (s.climateStep1).links = s.links ∧
      (s.climateStep1).can = s.can ∧ (s.climateStep1).vehicle = s.vehicle ∧
      (s.climateStep1).log = s.log ∧ (s.climateStep1).store = s.store ∧
      (s.climateStep1).handling = s.handling := by
  unfold State.climateStep1; (try dsimp only); (repeat' split) <;> simp

@[simp] theorem State.climateStep2_frame  (s : State) :
    (s.climateStep2).pending = s.pending ∧ (s.climateStep2).phase = s.phase ∧
      (s.climateStep2).mu = s.mu ∧ (s.climateStep2).prev = s.prev ∧
      (s.climateStep2).acct = s.acct ∧ (s.climateStep2).chg = s.chg ∧
      (s.climateStep2).set = s.set ∧ (s.climateStep2).inForce = s.inForce ∧ (s.climateStep2).test = s.test ∧
      (s.climateStep2).reg = s.reg ∧ (s.climateStep2).alloc = s.alloc ∧
      (s.climateStep2).water = s.water ∧ (s.climateStep2).mot = s.mot ∧
      (s.climateStep2).wind = s.wind ∧ (s.climateStep2).light = s.light ∧
      (s.climateStep2).can = s.can ∧ (s.climateStep2).vehicle = s.vehicle ∧
      (s.climateStep2).store = s.store ∧ (s.climateStep2).handling = s.handling := by
  unfold State.climateStep2; (try dsimp only); (repeat' split) <;> simp

@[simp] theorem State.climateStep2_lk  (s : State) (k : Link) :
    ((s.climateStep2).links.get k).live = (s.links.get k).live ∧ ((s.climateStep2).links.get k).timer = (s.links.get k).timer ∧
      ((s.climateStep2).links.get k).shortTaken = (s.links.get k).shortTaken ∧ ((s.climateStep2).links.get k).longTaken = (s.links.get k).longTaken ∧
      ((s.climateStep2).links.get k).shortN = (s.links.get k).shortN ∧ ((s.climateStep2).links.get k).longN = (s.links.get k).longN ∧
      ((s.climateStep2).links.get k).rxQueue = (s.links.get k).rxQueue ∧ ((s.climateStep2).links.get k).part = (s.links.get k).part ∧
      ((s.climateStep2).links.get k).batch = (s.links.get k).batch ∧ ((s.climateStep2).links.get k).snapshot = (s.links.get k).snapshot ∧
      ((s.climateStep2).links.get k).mask = (s.links.get k).mask ∧ ((s.climateStep2).links.get k).echo = (s.links.get k).echo := by
  unfold State.climateStep2; (try dsimp only); (repeat' split) <;> simp

@[simp] theorem State.climateStep2_uart  (s : State) :
    ((s.climateStep2).links.get .p).sent = (s.links.get .p).sent ∧
      ((s.climateStep2).links.get .t).sent = (s.links.get .t).sent := by
  unfold State.climateStep2; (try dsimp only); (repeat' split) <;> simp

@[simp] theorem State.climateStep3_frame  (s : State) :
    (s.climateStep3).pending = s.pending ∧ (s.climateStep3).phase = s.phase ∧
      (s.climateStep3).mu = s.mu ∧ (s.climateStep3).prev = s.prev ∧
      (s.climateStep3).acct = s.acct ∧ (s.climateStep3).chg = s.chg ∧
      (s.climateStep3).set = s.set ∧ (s.climateStep3).inForce = s.inForce ∧ (s.climateStep3).test = s.test ∧
      (s.climateStep3).reg = s.reg ∧ (s.climateStep3).alloc = s.alloc ∧
      (s.climateStep3).water = s.water ∧ (s.climateStep3).mot = s.mot ∧
      (s.climateStep3).wind = s.wind ∧ (s.climateStep3).light = s.light ∧
      (s.climateStep3).can = s.can ∧ (s.climateStep3).vehicle = s.vehicle ∧
      (s.climateStep3).log = s.log ∧ (s.climateStep3).store = s.store ∧
      (s.climateStep3).handling = s.handling := by
  unfold State.climateStep3; (try dsimp only); (repeat' split) <;> simp

@[simp] theorem State.climateStep3_lk  (s : State) (k : Link) :
    ((s.climateStep3).links.get k).live = (s.links.get k).live ∧ ((s.climateStep3).links.get k).timer = (s.links.get k).timer ∧
      ((s.climateStep3).links.get k).shortTaken = (s.links.get k).shortTaken ∧ ((s.climateStep3).links.get k).longTaken = (s.links.get k).longTaken ∧
      ((s.climateStep3).links.get k).shortN = (s.links.get k).shortN ∧ ((s.climateStep3).links.get k).longN = (s.links.get k).longN ∧
      ((s.climateStep3).links.get k).rxQueue = (s.links.get k).rxQueue ∧ ((s.climateStep3).links.get k).part = (s.links.get k).part ∧
      ((s.climateStep3).links.get k).batch = (s.links.get k).batch ∧ ((s.climateStep3).links.get k).snapshot = (s.links.get k).snapshot ∧
      ((s.climateStep3).links.get k).mask = (s.links.get k).mask ∧ ((s.climateStep3).links.get k).echo = (s.links.get k).echo := by
  unfold State.climateStep3; (try dsimp only); (repeat' split) <;> simp

@[simp] theorem State.climateStep3_uart  (s : State) :
    ((s.climateStep3).links.get .p).sent = (s.links.get .p).sent ∧
      ((s.climateStep3).links.get .t).sent = (s.links.get .t).sent := by
  unfold State.climateStep3; (try dsimp only); (repeat' split) <;> simp

@[simp] theorem State.climateStep4_frame  (s : State) :
    (s.climateStep4).pending = s.pending ∧ (s.climateStep4).phase = s.phase ∧
      (s.climateStep4).mu = s.mu ∧ (s.climateStep4).prev = s.prev ∧
      (s.climateStep4).acct = s.acct ∧ (s.climateStep4).chg = s.chg ∧
      (s.climateStep4).set = s.set ∧ (s.climateStep4).inForce = s.inForce ∧ (s.climateStep4).test = s.test ∧
      (s.climateStep4).reg = s.reg ∧ (s.climateStep4).alloc = s.alloc ∧
      (s.climateStep4).water = s.water ∧ (s.climateStep4).mot = s.mot ∧
      (s.climateStep4).wind = s.wind ∧ (s.climateStep4).light = s.light ∧
      (s.climateStep4).can = s.can ∧ (s.climateStep4).vehicle = s.vehicle ∧
      (s.climateStep4).store = s.store ∧ (s.climateStep4).handling = s.handling := by
  unfold State.climateStep4; (try dsimp only); (repeat' split) <;> simp

@[simp] theorem State.climateStep4_lk  (s : State) (k : Link) :
    ((s.climateStep4).links.get k).live = (s.links.get k).live ∧ ((s.climateStep4).links.get k).timer = (s.links.get k).timer ∧
      ((s.climateStep4).links.get k).shortTaken = (s.links.get k).shortTaken ∧ ((s.climateStep4).links.get k).longTaken = (s.links.get k).longTaken ∧
      ((s.climateStep4).links.get k).shortN = (s.links.get k).shortN ∧ ((s.climateStep4).links.get k).longN = (s.links.get k).longN ∧
      ((s.climateStep4).links.get k).rxQueue = (s.links.get k).rxQueue ∧ ((s.climateStep4).links.get k).part = (s.links.get k).part ∧
      ((s.climateStep4).links.get k).batch = (s.links.get k).batch ∧ ((s.climateStep4).links.get k).snapshot = (s.links.get k).snapshot ∧
      ((s.climateStep4).links.get k).mask = (s.links.get k).mask ∧ ((s.climateStep4).links.get k).echo = (s.links.get k).echo := by
  unfold State.climateStep4; (try dsimp only); (repeat' split) <;> simp

@[simp] theorem State.climateStep4_uart  (s : State) :
    ((s.climateStep4).links.get .p).sent = (s.links.get .p).sent ∧
      ((s.climateStep4).links.get .t).sent = (s.links.get .t).sent := by
  unfold State.climateStep4; (try dsimp only); (repeat' split) <;> simp

@[simp] theorem State.climateStep5_frame  (s : State) :
    (s.climateStep5).pending = s.pending ∧ (s.climateStep5).phase = s.phase ∧
      (s.climateStep5).mu = s.mu ∧ (s.climateStep5).prev = s.prev ∧
      (s.climateStep5).acct = s.acct ∧ (s.climateStep5).chg = s.chg ∧
      (s.climateStep5).set = s.set ∧ (s.climateStep5).inForce = s.inForce ∧ (s.climateStep5).test = s.test ∧
      (s.climateStep5).reg = s.reg ∧ (s.climateStep5).alloc = s.alloc ∧
      (s.climateStep5).water = s.water ∧ (s.climateStep5).mot = s.mot ∧
      (s.climateStep5).wind = s.wind ∧ (s.climateStep5).light = s.light ∧
      (s.climateStep5).can = s.can ∧ (s.climateStep5).vehicle = s.vehicle ∧
      (s.climateStep5).log = s.log ∧ (s.climateStep5).store = s.store ∧
      (s.climateStep5).handling = s.handling := by
  unfold State.climateStep5; (try dsimp only); (repeat' split) <;> simp

@[simp] theorem State.climateStep5_lk  (s : State) (k : Link) :
    ((s.climateStep5).links.get k).live = (s.links.get k).live ∧ ((s.climateStep5).links.get k).timer = (s.links.get k).timer ∧
      ((s.climateStep5).links.get k).shortTaken = (s.links.get k).shortTaken ∧ ((s.climateStep5).links.get k).longTaken = (s.links.get k).longTaken ∧
      ((s.climateStep5).links.get k).shortN = (s.links.get k).shortN ∧ ((s.climateStep5).links.get k).longN = (s.links.get k).longN ∧
      ((s.climateStep5).links.get k).rxQueue = (s.links.get k).rxQueue ∧ ((s.climateStep5).links.get k).part = (s.links.get k).part ∧
      ((s.climateStep5).links.get k).batch = (s.links.get k).batch ∧ ((s.climateStep5).links.get k).snapshot = (s.links.get k).snapshot ∧
      ((s.climateStep5).links.get k).mask = (s.links.get k).mask ∧ ((s.climateStep5).links.get k).echo = (s.links.get k).echo := by
  unfold State.climateStep5; (try dsimp only); (repeat' split) <;> simp

@[simp] theorem State.climateStep5_uart  (s : State) :
    ((s.climateStep5).links.get .p).sent = (s.links.get .p).sent ∧
      ((s.climateStep5).links.get .t).sent = (s.links.get .t).sent := by
  unfold State.climateStep5; (try dsimp only); (repeat' split) <;> simp

@[simp] theorem State.climateStep6_frame  (s : State) :
    (s.climateStep6).pending = s.pending ∧ (s.climateStep6).phase = s.phase ∧
      (s.climateStep6).mu = s.mu ∧ (s.climateStep6).prev = s.prev ∧
      (s.climateStep6).acct = s.acct ∧ (s.climateStep6).chg = s.chg ∧
      (s.climateStep6).set = s.set ∧ (s.climateStep6).inForce = s.inForce ∧ (s.climateStep6).test = s.test ∧
      (s.climateStep6).reg = s.reg ∧ (s.climateStep6).alloc = s.alloc ∧
      (s.climateStep6).mot = s.mot ∧ (s.climateStep6).wind = s.wind ∧
      (s.climateStep6).light = s.light ∧ (s.climateStep6).can = s.can ∧
      (s.climateStep6).vehicle = s.vehicle ∧ (s.climateStep6).store = s.store ∧
      (s.climateStep6).handling = s.handling := by
  unfold State.climateStep6; (try dsimp only); (repeat' split) <;> simp

@[simp] theorem State.climateStep6_lk  (s : State) (k : Link) :
    ((s.climateStep6).links.get k).live = (s.links.get k).live ∧ ((s.climateStep6).links.get k).timer = (s.links.get k).timer ∧
      ((s.climateStep6).links.get k).shortTaken = (s.links.get k).shortTaken ∧ ((s.climateStep6).links.get k).longTaken = (s.links.get k).longTaken ∧
      ((s.climateStep6).links.get k).shortN = (s.links.get k).shortN ∧ ((s.climateStep6).links.get k).longN = (s.links.get k).longN ∧
      ((s.climateStep6).links.get k).rxQueue = (s.links.get k).rxQueue ∧ ((s.climateStep6).links.get k).part = (s.links.get k).part ∧
      ((s.climateStep6).links.get k).batch = (s.links.get k).batch ∧ ((s.climateStep6).links.get k).snapshot = (s.links.get k).snapshot ∧
      ((s.climateStep6).links.get k).mask = (s.links.get k).mask ∧ ((s.climateStep6).links.get k).echo = (s.links.get k).echo := by
  unfold State.climateStep6; (try dsimp only); (repeat' split) <;> simp

@[simp] theorem State.climateStep6_uart  (s : State) :
    ((s.climateStep6).links.get .p).sent = (s.links.get .p).sent ∧
      ((s.climateStep6).links.get .t).sent = (s.links.get .t).sent := by
  unfold State.climateStep6; (try dsimp only); (repeat' split) <;> simp

@[simp] theorem State.climateSweep_frame  (s : State) :
    (s.climateSweep).pending = s.pending ∧ (s.climateSweep).phase = s.phase ∧
      (s.climateSweep).mu = s.mu ∧ (s.climateSweep).prev = s.prev ∧
      (s.climateSweep).acct = s.acct ∧ (s.climateSweep).chg = s.chg ∧
      (s.climateSweep).set = s.set ∧ (s.climateSweep).inForce = s.inForce ∧ (s.climateSweep).test = s.test ∧
      (s.climateSweep).reg = s.reg ∧ (s.climateSweep).alloc = s.alloc ∧
      (s.climateSweep).mot = s.mot ∧ (s.climateSweep).wind = s.wind ∧
      (s.climateSweep).light = s.light ∧ (s.climateSweep).can = s.can ∧
      (s.climateSweep).vehicle = s.vehicle ∧ (s.climateSweep).store = s.store ∧
      (s.climateSweep).handling = s.handling := by
  unfold State.climateSweep; (try dsimp only); (repeat' split) <;> simp

@[simp] theorem State.climateSweep_lk  (s : State) (k : Link) :
    ((s.climateSweep).links.get k).live = (s.links.get k).live ∧ ((s.climateSweep).links.get k).timer = (s.links.get k).timer ∧
      ((s.climateSweep).links.get k).shortTaken = (s.links.get k).shortTaken ∧ ((s.climateSweep).links.get k).longTaken = (s.links.get k).longTaken ∧
      ((s.climateSweep).links.get k).shortN = (s.links.get k).shortN ∧ ((s.climateSweep).links.get k).longN = (s.links.get k).longN ∧
      ((s.climateSweep).links.get k).rxQueue = (s.links.get k).rxQueue ∧ ((s.climateSweep).links.get k).part = (s.links.get k).part ∧
      ((s.climateSweep).links.get k).batch = (s.links.get k).batch ∧ ((s.climateSweep).links.get k).snapshot = (s.links.get k).snapshot ∧
      ((s.climateSweep).links.get k).mask = (s.links.get k).mask ∧ ((s.climateSweep).links.get k).echo = (s.links.get k).echo := by
  unfold State.climateSweep; (try dsimp only); (repeat' split) <;> simp

@[simp] theorem State.climateSweep_uart  (s : State) :
    ((s.climateSweep).links.get .p).sent = (s.links.get .p).sent ∧
      ((s.climateSweep).links.get .t).sent = (s.links.get .t).sent := by
  unfold State.climateSweep; (try dsimp only); (repeat' split) <;> simp

/-! ### Demand register -/

/-- The targets handed on are no motors. -/
theorem regTargets_kind : ∀ t ∈ regTargets, ∀ r, recOf t = some r → recKind r ≠ .motor := by decide

@[simp] theorem State.handOn_frame (t : Nat) (v : Nat × WantedBy) (s : State) :
    (s.handOn t v).pending = s.pending ∧ (s.handOn t v).phase = s.phase ∧
      (s.handOn t v).mu = s.mu ∧ (s.handOn t v).prev = s.prev ∧
      (s.handOn t v).acct = s.acct ∧ (s.handOn t v).chg = s.chg ∧
      (s.handOn t v).set = s.set ∧ (s.handOn t v).inForce = s.inForce ∧ (s.handOn t v).test = s.test ∧
      (s.handOn t v).reg = s.reg ∧ (s.handOn t v).alloc = s.alloc ∧
      (s.handOn t v).wind = s.wind ∧ (s.handOn t v).can = s.can ∧
      (s.handOn t v).vehicle = s.vehicle ∧ (s.handOn t v).log = s.log ∧
      (s.handOn t v).store = s.store ∧ (s.handOn t v).handling = s.handling := by
  unfold State.handOn; (try dsimp only); (repeat' split) <;> simp

@[simp] theorem State.handOn_lk (t : Nat) (v : Nat × WantedBy) (s : State) (k : Link) :
    ((s.handOn t v).links.get k).live = (s.links.get k).live ∧ ((s.handOn t v).links.get k).timer = (s.links.get k).timer ∧
      ((s.handOn t v).links.get k).shortTaken = (s.links.get k).shortTaken ∧ ((s.handOn t v).links.get k).longTaken = (s.links.get k).longTaken ∧
      ((s.handOn t v).links.get k).shortN = (s.links.get k).shortN ∧ ((s.handOn t v).links.get k).longN = (s.links.get k).longN ∧
      ((s.handOn t v).links.get k).rxQueue = (s.links.get k).rxQueue ∧ ((s.handOn t v).links.get k).part = (s.links.get k).part ∧
      ((s.handOn t v).links.get k).batch = (s.links.get k).batch ∧ ((s.handOn t v).links.get k).snapshot = (s.links.get k).snapshot ∧
      ((s.handOn t v).links.get k).mask = (s.links.get k).mask ∧ ((s.handOn t v).links.get k).echo = (s.links.get k).echo := by
  unfold State.handOn; (try dsimp only); (repeat' split) <;> simp

@[simp] theorem State.handOn_uart (t : Nat) (v : Nat × WantedBy) (s : State) :
    ((s.handOn t v).links.get .p).sent = (s.links.get .p).sent ∧
      ((s.handOn t v).links.get .t).sent = (s.links.get .t).sent := by
  unfold State.handOn; (try dsimp only); (repeat' split) <;> simp

theorem State.handOn_mot {t : Nat} (h : t ∈ regTargets) (v : Nat × WantedBy) (s : State) :
    (s.handOn t v).mot = s.mot := by
  unfold State.handOn
  (repeat' split) <;> first
    | exact State.setWanted_mot (regTargets_kind t h _ (by assumption)) _ _ s
    | simp

@[simp] theorem State.echo_frame (os : List Origin) (s : State) :
    (s.echo os).pending = s.pending ∧ (s.echo os).phase = s.phase ∧
      (s.echo os).mu = s.mu ∧ (s.echo os).prev = s.prev ∧
      (s.echo os).acct = s.acct ∧ (s.echo os).chg = s.chg ∧
      (s.echo os).set = s.set ∧ (s.echo os).inForce = s.inForce ∧ (s.echo os).tab = s.tab ∧
      (s.echo os).test = s.test ∧ (s.echo os).reg = s.reg ∧
      (s.echo os).alloc = s.alloc ∧ (s.echo os).clim = s.clim ∧
      (s.echo os).water = s.water ∧ (s.echo os).mot = s.mot ∧
      (s.echo os).wind = s.wind ∧ (s.echo os).light = s.light ∧
      (s.echo os).can = s.can ∧ (s.echo os).vehicle = s.vehicle ∧
      (s.echo os).log = s.log ∧ (s.echo os).store = s.store ∧
      (s.echo os).handling = s.handling := by
  exact ⟨foldl_keeps_mem (State.pending) _ _ (fun b _ t => by split <;> simp) _,
    foldl_keeps_mem (State.phase) _ _ (fun b _ t => by split <;> simp) _,
    foldl_keeps_mem (State.mu) _ _ (fun b _ t => by split <;> simp) _,
    foldl_keeps_mem (State.prev) _ _ (fun b _ t => by split <;> simp) _,
    foldl_keeps_mem (State.acct) _ _ (fun b _ t => by split <;> simp) _,
    foldl_keeps_mem (State.chg) _ _ (fun b _ t => by split <;> simp) _,
    foldl_keeps_mem (State.set) _ _ (fun b _ t => by split <;> simp) _,
    foldl_keeps_mem (State.inForce) _ _ (fun b _ t => by split <;> simp) _,
    foldl_keeps_mem (State.tab) _ _ (fun b _ t => by split <;> simp) _,
    foldl_keeps_mem (State.test) _ _ (fun b _ t => by split <;> simp) _,
    foldl_keeps_mem (State.reg) _ _ (fun b _ t => by split <;> simp) _,
    foldl_keeps_mem (State.alloc) _ _ (fun b _ t => by split <;> simp) _,
    foldl_keeps_mem (State.clim) _ _ (fun b _ t => by split <;> simp) _,
    foldl_keeps_mem (State.water) _ _ (fun b _ t => by split <;> simp) _,
    foldl_keeps_mem (State.mot) _ _ (fun b _ t => by split <;> simp) _,
    foldl_keeps_mem (State.wind) _ _ (fun b _ t => by split <;> simp) _,
    foldl_keeps_mem (State.light) _ _ (fun b _ t => by split <;> simp) _,
    foldl_keeps_mem (State.can) _ _ (fun b _ t => by split <;> simp) _,
    foldl_keeps_mem (State.vehicle) _ _ (fun b _ t => by split <;> simp) _,
    foldl_keeps_mem (State.log) _ _ (fun b _ t => by split <;> simp) _,
    foldl_keeps_mem (State.store) _ _ (fun b _ t => by split <;> simp) _,
    foldl_keeps_mem (State.handling) _ _ (fun b _ t => by split <;> simp) _⟩

@[simp] theorem State.echo_lk (os : List Origin) (s : State) (k : Link) :
    ((s.echo os).links.get k).live = (s.links.get k).live ∧ ((s.echo os).links.get k).timer = (s.links.get k).timer ∧
      ((s.echo os).links.get k).shortTaken = (s.links.get k).shortTaken ∧ ((s.echo os).links.get k).longTaken = (s.links.get k).longTaken ∧
      ((s.echo os).links.get k).shortN = (s.links.get k).shortN ∧ ((s.echo os).links.get k).longN = (s.links.get k).longN ∧
      ((s.echo os).links.get k).rxQueue = (s.links.get k).rxQueue ∧ ((s.echo os).links.get k).part = (s.links.get k).part ∧
      ((s.echo os).links.get k).batch = (s.links.get k).batch ∧ ((s.echo os).links.get k).snapshot = (s.links.get k).snapshot ∧
      ((s.echo os).links.get k).mask = (s.links.get k).mask ∧ ((s.echo os).links.get k).echo = (s.links.get k).echo := by
  exact ⟨foldl_keeps_mem (fun u : State => (u.links.get k).live) _ _ (fun b _ t => by split <;> simp) _,
    foldl_keeps_mem (fun u : State => (u.links.get k).timer) _ _ (fun b _ t => by split <;> simp) _,
    foldl_keeps_mem (fun u : State => (u.links.get k).shortTaken) _ _ (fun b _ t => by split <;> simp) _,
    foldl_keeps_mem (fun u : State => (u.links.get k).longTaken) _ _ (fun b _ t => by split <;> simp) _,
    foldl_keeps_mem (fun u : State => (u.links.get k).shortN) _ _ (fun b _ t => by split <;> simp) _,
    foldl_keeps_mem (fun u : State => (u.links.get k).longN) _ _ (fun b _ t => by split <;> simp) _,
    foldl_keeps_mem (fun u : State => (u.links.get k).rxQueue) _ _ (fun b _ t => by split <;> simp) _,
    foldl_keeps_mem (fun u : State => (u.links.get k).part) _ _ (fun b _ t => by split <;> simp) _,
    foldl_keeps_mem (fun u : State => (u.links.get k).batch) _ _ (fun b _ t => by split <;> simp) _,
    foldl_keeps_mem (fun u : State => (u.links.get k).snapshot) _ _ (fun b _ t => by split <;> simp) _,
    foldl_keeps_mem (fun u : State => (u.links.get k).mask) _ _ (fun b _ t => by split <;> simp) _,
    foldl_keeps_mem (fun u : State => (u.links.get k).echo) _ _ (fun b _ t => by split <;> simp) _⟩

@[simp] theorem State.echo_uart (os : List Origin) (s : State) :
    ((s.echo os).links.get .p).sent = (s.links.get .p).sent ∧
      ((s.echo os).links.get .t).sent = (s.links.get .t).sent := by
  exact ⟨foldl_keeps_mem (fun u : State => (u.links.get .p).sent) _ _ (fun b _ t => by split <;> simp) _,
    foldl_keeps_mem (fun u : State => (u.links.get .t).sent) _ _ (fun b _ t => by split <;> simp) _⟩

/-- Resolved values that changed, handed on in ascending target number (R58). -/
def State.handChanged (was : Settings) (old es : List Entry) (cfg : Settings) (s : State) : State :=
  regTargets.foldl
    (fun (u : State) n => if resolveIn cfg es n = resolveIn was old n then u else u.handOn n (resolveIn cfg es n)) s

@[simp] theorem State.handChanged_frame (was : Settings) (old es : List Entry) (cfg : Settings) (s : State) :
    (s.handChanged was old es cfg).pending = s.pending ∧ (s.handChanged was old es cfg).phase = s.phase ∧
      (s.handChanged was old es cfg).mu = s.mu ∧ (s.handChanged was old es cfg).prev = s.prev ∧
      (s.handChanged was old es cfg).acct = s.acct ∧ (s.handChanged was old es cfg).chg = s.chg ∧
      (s.handChanged was old es cfg).set = s.set ∧ (s.handChanged was old es cfg).inForce = s.inForce ∧ (s.handChanged was old es cfg).test = s.test ∧
      (s.handChanged was old es cfg).reg = s.reg ∧ (s.handChanged was old es cfg).alloc = s.alloc ∧
      (s.handChanged was old es cfg).mot = s.mot ∧ (s.handChanged was old es cfg).wind = s.wind ∧
      (s.handChanged was old es cfg).can = s.can ∧ (s.handChanged was old es cfg).vehicle = s.vehicle ∧
      (s.handChanged was old es cfg).log = s.log ∧ (s.handChanged was old es cfg).store = s.store ∧
      (s.handChanged was old es cfg).handling = s.handling := by
  unfold State.handChanged; exact ⟨foldl_keeps_mem (State.pending) _ _ (fun n _ (u : State) => by split <;> simp) _,
    foldl_keeps_mem (State.phase) _ _ (fun n _ (u : State) => by split <;> simp) _,
    foldl_keeps_mem (State.mu) _ _ (fun n _ (u : State) => by split <;> simp) _,
    foldl_keeps_mem (State.prev) _ _ (fun n _ (u : State) => by split <;> simp) _,
    foldl_keeps_mem (State.acct) _ _ (fun n _ (u : State) => by split <;> simp) _,
    foldl_keeps_mem (State.chg) _ _ (fun n _ (u : State) => by split <;> simp) _,
    foldl_keeps_mem (State.set) _ _ (fun n _ (u : State) => by split <;> simp) _,
    foldl_keeps_mem (State.inForce) _ _ (fun n _ (u : State) => by split <;> simp) _,
    foldl_keeps_mem (State.test) _ _ (fun n _ (u : State) => by split <;> simp) _,
    foldl_keeps_mem (State.reg) _ _ (fun n _ (u : State) => by split <;> simp) _,
    foldl_keeps_mem (State.alloc) _ _ (fun n _ (u : State) => by split <;> simp) _,
    foldl_keeps_mem (State.mot) _ _ (fun n h (u : State) => by split <;> simp [State.handOn_mot h]) _,
    foldl_keeps_mem (State.wind) _ _ (fun n _ (u : State) => by split <;> simp) _,
    foldl_keeps_mem (State.can) _ _ (fun n _ (u : State) => by split <;> simp) _,
    foldl_keeps_mem (State.vehicle) _ _ (fun n _ (u : State) => by split <;> simp) _,
    foldl_keeps_mem (State.log) _ _ (fun n _ (u : State) => by split <;> simp) _,
    foldl_keeps_mem (State.store) _ _ (fun n _ (u : State) => by split <;> simp) _,
    foldl_keeps_mem (State.handling) _ _ (fun n _ (u : State) => by split <;> simp) _⟩

@[simp] theorem State.handChanged_lk (was : Settings) (old es : List Entry) (cfg : Settings) (s : State) (k : Link) :
    ((s.handChanged was old es cfg).links.get k).live = (s.links.get k).live ∧ ((s.handChanged was old es cfg).links.get k).timer = (s.links.get k).timer ∧
      ((s.handChanged was old es cfg).links.get k).shortTaken = (s.links.get k).shortTaken ∧ ((s.handChanged was old es cfg).links.get k).longTaken = (s.links.get k).longTaken ∧
      ((s.handChanged was old es cfg).links.get k).shortN = (s.links.get k).shortN ∧ ((s.handChanged was old es cfg).links.get k).longN = (s.links.get k).longN ∧
      ((s.handChanged was old es cfg).links.get k).rxQueue = (s.links.get k).rxQueue ∧ ((s.handChanged was old es cfg).links.get k).part = (s.links.get k).part ∧
      ((s.handChanged was old es cfg).links.get k).batch = (s.links.get k).batch ∧ ((s.handChanged was old es cfg).links.get k).snapshot = (s.links.get k).snapshot ∧
      ((s.handChanged was old es cfg).links.get k).mask = (s.links.get k).mask ∧ ((s.handChanged was old es cfg).links.get k).echo = (s.links.get k).echo := by
  unfold State.handChanged; exact ⟨foldl_keeps_mem (fun u : State => (u.links.get k).live) _ _ (fun n _ (u : State) => by split <;> simp) _,
    foldl_keeps_mem (fun u : State => (u.links.get k).timer) _ _ (fun n _ (u : State) => by split <;> simp) _,
    foldl_keeps_mem (fun u : State => (u.links.get k).shortTaken) _ _ (fun n _ (u : State) => by split <;> simp) _,
    foldl_keeps_mem (fun u : State => (u.links.get k).longTaken) _ _ (fun n _ (u : State) => by split <;> simp) _,
    foldl_keeps_mem (fun u : State => (u.links.get k).shortN) _ _ (fun n _ (u : State) => by split <;> simp) _,
    foldl_keeps_mem (fun u : State => (u.links.get k).longN) _ _ (fun n _ (u : State) => by split <;> simp) _,
    foldl_keeps_mem (fun u : State => (u.links.get k).rxQueue) _ _ (fun n _ (u : State) => by split <;> simp) _,
    foldl_keeps_mem (fun u : State => (u.links.get k).part) _ _ (fun n _ (u : State) => by split <;> simp) _,
    foldl_keeps_mem (fun u : State => (u.links.get k).batch) _ _ (fun n _ (u : State) => by split <;> simp) _,
    foldl_keeps_mem (fun u : State => (u.links.get k).snapshot) _ _ (fun n _ (u : State) => by split <;> simp) _,
    foldl_keeps_mem (fun u : State => (u.links.get k).mask) _ _ (fun n _ (u : State) => by split <;> simp) _,
    foldl_keeps_mem (fun u : State => (u.links.get k).echo) _ _ (fun n _ (u : State) => by split <;> simp) _⟩

@[simp] theorem State.handChanged_uart (was : Settings) (old es : List Entry) (cfg : Settings) (s : State) :
    ((s.handChanged was old es cfg).links.get .p).sent = (s.links.get .p).sent ∧
      ((s.handChanged was old es cfg).links.get .t).sent = (s.links.get .t).sent := by
  unfold State.handChanged; exact ⟨foldl_keeps_mem (fun u : State => (u.links.get .p).sent) _ _ (fun n _ (u : State) => by split <;> simp) _,
    foldl_keeps_mem (fun u : State => (u.links.get .t).sent) _ _ (fun n _ (u : State) => by split <;> simp) _⟩

theorem State.regApplyFrom_handChanged (was : Settings) (es : List Entry) (os : List Origin) (s : State) :
    s.regApplyFrom was es os = (({ s with reg := es } : State).handChanged was s.reg es s.set).echo os := rfl

/-- R58: after an operation the register holds the new list. -/
@[simp] theorem State.regApplyFrom_reg (was : Settings) (es : List Entry) (os : List Origin) (s : State) : (s.regApplyFrom was es os).reg = es := by
  simp [State.regApplyFrom_handChanged]

@[simp] theorem State.regApplyFrom_frame (was : Settings) (es : List Entry) (os : List Origin) (s : State) :
    (s.regApplyFrom was es os).pending = s.pending ∧ (s.regApplyFrom was es os).phase = s.phase ∧
      (s.regApplyFrom was es os).mu = s.mu ∧ (s.regApplyFrom was es os).prev = s.prev ∧
      (s.regApplyFrom was es os).acct = s.acct ∧ (s.regApplyFrom was es os).chg = s.chg ∧
      (s.regApplyFrom was es os).set = s.set ∧ (s.regApplyFrom was es os).inForce = s.inForce ∧ (s.regApplyFrom was es os).test = s.test ∧
      (s.regApplyFrom was es os).alloc = s.alloc ∧ (s.regApplyFrom was es os).mot = s.mot ∧
      (s.regApplyFrom was es os).wind = s.wind ∧ (s.regApplyFrom was es os).can = s.can ∧
      (s.regApplyFrom was es os).vehicle = s.vehicle ∧ (s.regApplyFrom was es os).log = s.log ∧
      (s.regApplyFrom was es os).store = s.store ∧ (s.regApplyFrom was es os).handling = s.handling := by
  simp [State.regApplyFrom_handChanged]

@[simp] theorem State.regApplyFrom_lk (was : Settings) (es : List Entry) (os : List Origin) (s : State) (k : Link) :
    ((s.regApplyFrom was es os).links.get k).live = (s.links.get k).live ∧ ((s.regApplyFrom was es os).links.get k).timer = (s.links.get k).timer ∧
      ((s.regApplyFrom was es os).links.get k).shortTaken = (s.links.get k).shortTaken ∧ ((s.regApplyFrom was es os).links.get k).longTaken = (s.links.get k).longTaken ∧
      ((s.regApplyFrom was es os).links.get k).shortN = (s.links.get k).shortN ∧ ((s.regApplyFrom was es os).links.get k).longN = (s.links.get k).longN ∧
      ((s.regApplyFrom was es os).links.get k).rxQueue = (s.links.get k).rxQueue ∧ ((s.regApplyFrom was es os).links.get k).part = (s.links.get k).part ∧
      ((s.regApplyFrom was es os).links.get k).batch = (s.links.get k).batch ∧ ((s.regApplyFrom was es os).links.get k).snapshot = (s.links.get k).snapshot ∧
      ((s.regApplyFrom was es os).links.get k).mask = (s.links.get k).mask ∧ ((s.regApplyFrom was es os).links.get k).echo = (s.links.get k).echo := by
  simp [State.regApplyFrom_handChanged]

@[simp] theorem State.regApplyFrom_uart (was : Settings) (es : List Entry) (os : List Origin) (s : State) :
    ((s.regApplyFrom was es os).links.get .p).sent = (s.links.get .p).sent ∧
      ((s.regApplyFrom was es os).links.get .t).sent = (s.links.get .t).sent := by
  simp [State.regApplyFrom_handChanged]

theorem State.regApply_handChanged (es : List Entry) (os : List Origin) (s : State) :
    s.regApply es os = (({ s with reg := es } : State).handChanged s.set s.reg es s.set).echo os := rfl

/-- R58: after an operation the register holds the new list. -/
@[simp] theorem State.regApply_reg (es : List Entry) (os : List Origin) (s : State) : (s.regApply es os).reg = es := by
  simp [State.regApply]

@[simp] theorem State.regApply_frame (es : List Entry) (os : List Origin) (s : State) :
    (s.regApply es os).pending = s.pending ∧ (s.regApply es os).phase = s.phase ∧
      (s.regApply es os).mu = s.mu ∧ (s.regApply es os).prev = s.prev ∧
      (s.regApply es os).acct = s.acct ∧ (s.regApply es os).chg = s.chg ∧
      (s.regApply es os).set = s.set ∧ (s.regApply es os).inForce = s.inForce ∧ (s.regApply es os).test = s.test ∧
      (s.regApply es os).alloc = s.alloc ∧ (s.regApply es os).mot = s.mot ∧
      (s.regApply es os).wind = s.wind ∧ (s.regApply es os).can = s.can ∧
      (s.regApply es os).vehicle = s.vehicle ∧ (s.regApply es os).log = s.log ∧
      (s.regApply es os).store = s.store ∧ (s.regApply es os).handling = s.handling := by
  simp [State.regApply]

@[simp] theorem State.regApply_lk (es : List Entry) (os : List Origin) (s : State) (k : Link) :
    ((s.regApply es os).links.get k).live = (s.links.get k).live ∧ ((s.regApply es os).links.get k).timer = (s.links.get k).timer ∧
      ((s.regApply es os).links.get k).shortTaken = (s.links.get k).shortTaken ∧ ((s.regApply es os).links.get k).longTaken = (s.links.get k).longTaken ∧
      ((s.regApply es os).links.get k).shortN = (s.links.get k).shortN ∧ ((s.regApply es os).links.get k).longN = (s.links.get k).longN ∧
      ((s.regApply es os).links.get k).rxQueue = (s.links.get k).rxQueue ∧ ((s.regApply es os).links.get k).part = (s.links.get k).part ∧
      ((s.regApply es os).links.get k).batch = (s.links.get k).batch ∧ ((s.regApply es os).links.get k).snapshot = (s.links.get k).snapshot ∧
      ((s.regApply es os).links.get k).mask = (s.links.get k).mask ∧ ((s.regApply es os).links.get k).echo = (s.links.get k).echo := by
  simp [State.regApply]

@[simp] theorem State.regApply_uart (es : List Entry) (os : List Origin) (s : State) :
    ((s.regApply es os).links.get .p).sent = (s.links.get .p).sent ∧
      ((s.regApply es os).links.get .t).sent = (s.links.get .t).sent := by
  simp [State.regApply]

@[simp] theorem State.handAll_frame  (s : State) :
    (s.handAll).pending = s.pending ∧ (s.handAll).phase = s.phase ∧
      (s.handAll).mu = s.mu ∧ (s.handAll).prev = s.prev ∧
      (s.handAll).acct = s.acct ∧ (s.handAll).chg = s.chg ∧
      (s.handAll).set = s.set ∧ (s.handAll).inForce = s.inForce ∧ (s.handAll).test = s.test ∧
      (s.handAll).reg = s.reg ∧ (s.handAll).alloc = s.alloc ∧
      (s.handAll).mot = s.mot ∧ (s.handAll).wind = s.wind ∧
      (s.handAll).can = s.can ∧ (s.handAll).vehicle = s.vehicle ∧
      (s.handAll).log = s.log ∧ (s.handAll).store = s.store ∧
      (s.handAll).handling = s.handling := by
  unfold State.handAll; exact ⟨foldl_keeps_mem (State.pending) _ _ (fun n _ (u : State) => by simp) _,
    foldl_keeps_mem (State.phase) _ _ (fun n _ (u : State) => by simp) _,
    foldl_keeps_mem (State.mu) _ _ (fun n _ (u : State) => by simp) _,
    foldl_keeps_mem (State.prev) _ _ (fun n _ (u : State) => by simp) _,
    foldl_keeps_mem (State.acct) _ _ (fun n _ (u : State) => by simp) _,
    foldl_keeps_mem (State.chg) _ _ (fun n _ (u : State) => by simp) _,
    foldl_keeps_mem (State.set) _ _ (fun n _ (u : State) => by simp) _,
    foldl_keeps_mem (State.inForce) _ _ (fun n _ (u : State) => by simp) _,
    foldl_keeps_mem (State.test) _ _ (fun n _ (u : State) => by simp) _,
    foldl_keeps_mem (State.reg) _ _ (fun n _ (u : State) => by simp) _,
    foldl_keeps_mem (State.alloc) _ _ (fun n _ (u : State) => by simp) _,
    foldl_keeps_mem (State.mot) _ _ (fun n h (u : State) => by simp [State.handOn_mot h]) _,
    foldl_keeps_mem (State.wind) _ _ (fun n _ (u : State) => by simp) _,
    foldl_keeps_mem (State.can) _ _ (fun n _ (u : State) => by simp) _,
    foldl_keeps_mem (State.vehicle) _ _ (fun n _ (u : State) => by simp) _,
    foldl_keeps_mem (State.log) _ _ (fun n _ (u : State) => by simp) _,
    foldl_keeps_mem (State.store) _ _ (fun n _ (u : State) => by simp) _,
    foldl_keeps_mem (State.handling) _ _ (fun n _ (u : State) => by simp) _⟩

@[simp] theorem State.handAll_lk  (s : State) (k : Link) :
    ((s.handAll).links.get k).live = (s.links.get k).live ∧ ((s.handAll).links.get k).timer = (s.links.get k).timer ∧
      ((s.handAll).links.get k).shortTaken = (s.links.get k).shortTaken ∧ ((s.handAll).links.get k).longTaken = (s.links.get k).longTaken ∧
      ((s.handAll).links.get k).shortN = (s.links.get k).shortN ∧ ((s.handAll).links.get k).longN = (s.links.get k).longN ∧
      ((s.handAll).links.get k).rxQueue = (s.links.get k).rxQueue ∧ ((s.handAll).links.get k).part = (s.links.get k).part ∧
      ((s.handAll).links.get k).batch = (s.links.get k).batch ∧ ((s.handAll).links.get k).snapshot = (s.links.get k).snapshot ∧
      ((s.handAll).links.get k).mask = (s.links.get k).mask ∧ ((s.handAll).links.get k).echo = (s.links.get k).echo := by
  unfold State.handAll; exact ⟨foldl_keeps_mem (fun u : State => (u.links.get k).live) _ _ (fun n _ (u : State) => by simp) _,
    foldl_keeps_mem (fun u : State => (u.links.get k).timer) _ _ (fun n _ (u : State) => by simp) _,
    foldl_keeps_mem (fun u : State => (u.links.get k).shortTaken) _ _ (fun n _ (u : State) => by simp) _,
    foldl_keeps_mem (fun u : State => (u.links.get k).longTaken) _ _ (fun n _ (u : State) => by simp) _,
    foldl_keeps_mem (fun u : State => (u.links.get k).shortN) _ _ (fun n _ (u : State) => by simp) _,
    foldl_keeps_mem (fun u : State => (u.links.get k).longN) _ _ (fun n _ (u : State) => by simp) _,
    foldl_keeps_mem (fun u : State => (u.links.get k).rxQueue) _ _ (fun n _ (u : State) => by simp) _,
    foldl_keeps_mem (fun u : State => (u.links.get k).part) _ _ (fun n _ (u : State) => by simp) _,
    foldl_keeps_mem (fun u : State => (u.links.get k).batch) _ _ (fun n _ (u : State) => by simp) _,
    foldl_keeps_mem (fun u : State => (u.links.get k).snapshot) _ _ (fun n _ (u : State) => by simp) _,
    foldl_keeps_mem (fun u : State => (u.links.get k).mask) _ _ (fun n _ (u : State) => by simp) _,
    foldl_keeps_mem (fun u : State => (u.links.get k).echo) _ _ (fun n _ (u : State) => by simp) _⟩

@[simp] theorem State.handAll_uart  (s : State) :
    ((s.handAll).links.get .p).sent = (s.links.get .p).sent ∧
      ((s.handAll).links.get .t).sent = (s.links.get .t).sent := by
  unfold State.handAll; exact ⟨foldl_keeps_mem (fun u : State => (u.links.get .p).sent) _ _ (fun n _ (u : State) => by simp) _,
    foldl_keeps_mem (fun u : State => (u.links.get .t).sent) _ _ (fun n _ (u : State) => by simp) _⟩

@[simp] theorem State.placeEntry_frame (e : Entry) (s : State) :
    (s.placeEntry e).pending = s.pending ∧ (s.placeEntry e).phase = s.phase ∧
      (s.placeEntry e).mu = s.mu ∧ (s.placeEntry e).prev = s.prev ∧
      (s.placeEntry e).acct = s.acct ∧ (s.placeEntry e).chg = s.chg ∧
      (s.placeEntry e).set = s.set ∧ (s.placeEntry e).inForce = s.inForce ∧ (s.placeEntry e).test = s.test ∧
      (s.placeEntry e).alloc = s.alloc ∧ (s.placeEntry e).mot = s.mot ∧
      (s.placeEntry e).wind = s.wind ∧ (s.placeEntry e).can = s.can ∧
      (s.placeEntry e).vehicle = s.vehicle ∧ (s.placeEntry e).log = s.log ∧
      (s.placeEntry e).store = s.store ∧ (s.placeEntry e).handling = s.handling := by
  unfold State.placeEntry; (try dsimp only); (repeat' split) <;> simp

@[simp] theorem State.placeEntry_lk (e : Entry) (s : State) (k : Link) :
    ((s.placeEntry e).links.get k).live = (s.links.get k).live ∧ ((s.placeEntry e).links.get k).timer = (s.links.get k).timer ∧
      ((s.placeEntry e).links.get k).shortTaken = (s.links.get k).shortTaken ∧ ((s.placeEntry e).links.get k).longTaken = (s.links.get k).longTaken ∧
      ((s.placeEntry e).links.get k).shortN = (s.links.get k).shortN ∧ ((s.placeEntry e).links.get k).longN = (s.links.get k).longN ∧
      ((s.placeEntry e).links.get k).rxQueue = (s.links.get k).rxQueue ∧ ((s.placeEntry e).links.get k).part = (s.links.get k).part ∧
      ((s.placeEntry e).links.get k).batch = (s.links.get k).batch ∧ ((s.placeEntry e).links.get k).snapshot = (s.links.get k).snapshot ∧
      ((s.placeEntry e).links.get k).mask = (s.links.get k).mask ∧ ((s.placeEntry e).links.get k).echo = (s.links.get k).echo := by
  unfold State.placeEntry; (try dsimp only); (repeat' split) <;> simp

@[simp] theorem State.placeEntry_uart (e : Entry) (s : State) :
    ((s.placeEntry e).links.get .p).sent = (s.links.get .p).sent ∧
      ((s.placeEntry e).links.get .t).sent = (s.links.get .t).sent := by
  unfold State.placeEntry; (try dsimp only); (repeat' split) <;> simp

@[simp] theorem State.removeEntries_frame (p : Entry → Bool) (s : State) :
    (s.removeEntries p).pending = s.pending ∧ (s.removeEntries p).phase = s.phase ∧
      (s.removeEntries p).mu = s.mu ∧ (s.removeEntries p).prev = s.prev ∧
      (s.removeEntries p).acct = s.acct ∧ (s.removeEntries p).chg = s.chg ∧
      (s.removeEntries p).set = s.set ∧ (s.removeEntries p).inForce = s.inForce ∧ (s.removeEntries p).test = s.test ∧
      (s.removeEntries p).alloc = s.alloc ∧ (s.removeEntries p).mot = s.mot ∧
      (s.removeEntries p).wind = s.wind ∧ (s.removeEntries p).can = s.can ∧
      (s.removeEntries p).vehicle = s.vehicle ∧ (s.removeEntries p).log = s.log ∧
      (s.removeEntries p).store = s.store ∧ (s.removeEntries p).handling = s.handling := by
  simp [State.removeEntries]

@[simp] theorem State.removeEntries_lk (p : Entry → Bool) (s : State) (k : Link) :
    ((s.removeEntries p).links.get k).live = (s.links.get k).live ∧ ((s.removeEntries p).links.get k).timer = (s.links.get k).timer ∧
      ((s.removeEntries p).links.get k).shortTaken = (s.links.get k).shortTaken ∧ ((s.removeEntries p).links.get k).longTaken = (s.links.get k).longTaken ∧
      ((s.removeEntries p).links.get k).shortN = (s.links.get k).shortN ∧ ((s.removeEntries p).links.get k).longN = (s.links.get k).longN ∧
      ((s.removeEntries p).links.get k).rxQueue = (s.links.get k).rxQueue ∧ ((s.removeEntries p).links.get k).part = (s.links.get k).part ∧
      ((s.removeEntries p).links.get k).batch = (s.links.get k).batch ∧ ((s.removeEntries p).links.get k).snapshot = (s.links.get k).snapshot ∧
      ((s.removeEntries p).links.get k).mask = (s.links.get k).mask ∧ ((s.removeEntries p).links.get k).echo = (s.links.get k).echo := by
  simp [State.removeEntries]

@[simp] theorem State.removeEntries_uart (p : Entry → Bool) (s : State) :
    ((s.removeEntries p).links.get .p).sent = (s.links.get .p).sent ∧
      ((s.removeEntries p).links.get .t).sent = (s.links.get .t).sent := by
  simp [State.removeEntries]

/-- R63 to R65, R72: what is left of the register. -/
@[simp] theorem State.removeEntries_reg (p : Entry → Bool) (s : State) :
    (s.removeEntries p).reg = s.reg.filter fun e => !(p e) := by simp [State.removeEntries]

@[simp] theorem State.oneSecond_frame  (s : State) :
    (s.oneSecond).pending = s.pending ∧ (s.oneSecond).phase = s.phase ∧
      (s.oneSecond).mu = s.mu ∧ (s.oneSecond).prev = s.prev ∧
      (s.oneSecond).acct = s.acct ∧ (s.oneSecond).chg = s.chg ∧
      (s.oneSecond).set = s.set ∧ (s.oneSecond).inForce = s.inForce ∧ (s.oneSecond).test = s.test ∧
      (s.oneSecond).alloc = s.alloc ∧ (s.oneSecond).mot = s.mot ∧
      (s.oneSecond).wind = s.wind ∧ (s.oneSecond).can = s.can ∧
      (s.oneSecond).vehicle = s.vehicle ∧ (s.oneSecond).log = s.log ∧
      (s.oneSecond).store = s.store ∧ (s.oneSecond).handling = s.handling := by
  simp [State.oneSecond]

@[simp] theorem State.oneSecond_lk  (s : State) (k : Link) :
    ((s.oneSecond).links.get k).live = (s.links.get k).live ∧ ((s.oneSecond).links.get k).timer = (s.links.get k).timer ∧
      ((s.oneSecond).links.get k).shortTaken = (s.links.get k).shortTaken ∧ ((s.oneSecond).links.get k).longTaken = (s.links.get k).longTaken ∧
      ((s.oneSecond).links.get k).shortN = (s.links.get k).shortN ∧ ((s.oneSecond).links.get k).longN = (s.links.get k).longN ∧
      ((s.oneSecond).links.get k).rxQueue = (s.links.get k).rxQueue ∧ ((s.oneSecond).links.get k).part = (s.links.get k).part ∧
      ((s.oneSecond).links.get k).batch = (s.links.get k).batch ∧ ((s.oneSecond).links.get k).snapshot = (s.links.get k).snapshot ∧
      ((s.oneSecond).links.get k).mask = (s.links.get k).mask ∧ ((s.oneSecond).links.get k).echo = (s.links.get k).echo := by
  simp [State.oneSecond]

@[simp] theorem State.oneSecond_uart  (s : State) :
    ((s.oneSecond).links.get .p).sent = (s.links.get .p).sent ∧
      ((s.oneSecond).links.get .t).sent = (s.links.get .t).sent := by
  simp [State.oneSecond]

@[simp] theorem State.tetherRemoval_frame (l : Link) (s : State) :
    (s.tetherRemoval l).pending = s.pending ∧ (s.tetherRemoval l).phase = s.phase ∧
      (s.tetherRemoval l).mu = s.mu ∧ (s.tetherRemoval l).prev = s.prev ∧
      (s.tetherRemoval l).acct = s.acct ∧ (s.tetherRemoval l).chg = s.chg ∧
      (s.tetherRemoval l).set = s.set ∧ (s.tetherRemoval l).inForce = s.inForce ∧ (s.tetherRemoval l).test = s.test ∧
      (s.tetherRemoval l).alloc = s.alloc ∧ (s.tetherRemoval l).mot = s.mot ∧
      (s.tetherRemoval l).wind = s.wind ∧ (s.tetherRemoval l).can = s.can ∧
      (s.tetherRemoval l).vehicle = s.vehicle ∧ (s.tetherRemoval l).log = s.log ∧
      (s.tetherRemoval l).store = s.store ∧ (s.tetherRemoval l).handling = s.handling := by
  simp [State.tetherRemoval]

@[simp] theorem State.tetherRemoval_lk (l : Link) (s : State) (k : Link) :
    ((s.tetherRemoval l).links.get k).live = (s.links.get k).live ∧ ((s.tetherRemoval l).links.get k).timer = (s.links.get k).timer ∧
      ((s.tetherRemoval l).links.get k).shortTaken = (s.links.get k).shortTaken ∧ ((s.tetherRemoval l).links.get k).longTaken = (s.links.get k).longTaken ∧
      ((s.tetherRemoval l).links.get k).shortN = (s.links.get k).shortN ∧ ((s.tetherRemoval l).links.get k).longN = (s.links.get k).longN ∧
      ((s.tetherRemoval l).links.get k).rxQueue = (s.links.get k).rxQueue ∧ ((s.tetherRemoval l).links.get k).part = (s.links.get k).part ∧
      ((s.tetherRemoval l).links.get k).batch = (s.links.get k).batch ∧ ((s.tetherRemoval l).links.get k).snapshot = (s.links.get k).snapshot ∧
      ((s.tetherRemoval l).links.get k).mask = (s.links.get k).mask ∧ ((s.tetherRemoval l).links.get k).echo = (s.links.get k).echo := by
  simp [State.tetherRemoval]

@[simp] theorem State.tetherRemoval_uart (l : Link) (s : State) :
    ((s.tetherRemoval l).links.get .p).sent = (s.links.get .p).sent ∧
      ((s.tetherRemoval l).links.get .t).sent = (s.links.get .t).sent := by
  simp [State.tetherRemoval]

/-- R65, R66: the list that new settings leave. -/
@[simp] theorem State.regSettings_reg (was : Settings) (ls : List Link) (s : State) :
    (s.regSettings was ls).reg =
      (s.reg.filter fun e => !(e.hold == .tethered && ls.any fun l => e.origin == l.origin)).map
        (Entry.capped was s.set) := by
  simp [State.regSettings]

/-- R66: a lowered ceiling changes the precedence alone. -/
theorem Entry.capped_eq (was now : Settings) (e : Entry) :
    e.capped was now = { e with prec := (e.capped was now).prec } := by
  simp only [Entry.capped, allLinks, List.foldl, Entry.capPrec]
  (repeat' split) <;> rfl

@[simp] theorem State.regSettings_frame (was : Settings) (ls : List Link) (s : State) :
    (s.regSettings was ls).pending = s.pending ∧ (s.regSettings was ls).phase = s.phase ∧
      (s.regSettings was ls).mu = s.mu ∧ (s.regSettings was ls).prev = s.prev ∧
      (s.regSettings was ls).acct = s.acct ∧ (s.regSettings was ls).chg = s.chg ∧
      (s.regSettings was ls).set = s.set ∧ (s.regSettings was ls).inForce = s.inForce ∧ (s.regSettings was ls).test = s.test ∧
      (s.regSettings was ls).alloc = s.alloc ∧ (s.regSettings was ls).mot = s.mot ∧
      (s.regSettings was ls).wind = s.wind ∧ (s.regSettings was ls).can = s.can ∧
      (s.regSettings was ls).vehicle = s.vehicle ∧ (s.regSettings was ls).log = s.log ∧
      (s.regSettings was ls).store = s.store ∧ (s.regSettings was ls).handling = s.handling := by
  simp [State.regSettings]

@[simp] theorem State.regSettings_lk (was : Settings) (ls : List Link) (s : State) (k : Link) :
    ((s.regSettings was ls).links.get k).live = (s.links.get k).live ∧ ((s.regSettings was ls).links.get k).timer = (s.links.get k).timer ∧
      ((s.regSettings was ls).links.get k).shortTaken = (s.links.get k).shortTaken ∧ ((s.regSettings was ls).links.get k).longTaken = (s.links.get k).longTaken ∧
      ((s.regSettings was ls).links.get k).shortN = (s.links.get k).shortN ∧ ((s.regSettings was ls).links.get k).longN = (s.links.get k).longN ∧
      ((s.regSettings was ls).links.get k).rxQueue = (s.links.get k).rxQueue ∧ ((s.regSettings was ls).links.get k).part = (s.links.get k).part ∧
      ((s.regSettings was ls).links.get k).batch = (s.links.get k).batch ∧ ((s.regSettings was ls).links.get k).snapshot = (s.links.get k).snapshot ∧
      ((s.regSettings was ls).links.get k).mask = (s.links.get k).mask ∧ ((s.regSettings was ls).links.get k).echo = (s.links.get k).echo := by
  simp [State.regSettings]

@[simp] theorem State.regSettings_uart (was : Settings) (ls : List Link) (s : State) :
    ((s.regSettings was ls).links.get .p).sent = (s.links.get .p).sent ∧
      ((s.regSettings was ls).links.get .t).sent = (s.links.get .t).sent := by
  simp [State.regSettings]

@[simp] theorem State.regReset_frame  (s : State) :
    (s.regReset).pending = s.pending ∧ (s.regReset).phase = s.phase ∧
      (s.regReset).mu = s.mu ∧ (s.regReset).prev = s.prev ∧
      (s.regReset).acct = s.acct ∧ (s.regReset).chg = s.chg ∧
      (s.regReset).set = s.set ∧ (s.regReset).inForce = s.inForce ∧ (s.regReset).test = s.test ∧
      (s.regReset).alloc = s.alloc ∧ (s.regReset).mot = s.mot ∧
      (s.regReset).wind = s.wind ∧ (s.regReset).can = s.can ∧
      (s.regReset).vehicle = s.vehicle ∧ (s.regReset).log = s.log ∧
      (s.regReset).store = s.store ∧ (s.regReset).handling = s.handling := by
  simp [State.regReset]

@[simp] theorem State.regReset_lk  (s : State) (k : Link) :
    ((s.regReset).links.get k).live = (s.links.get k).live ∧ ((s.regReset).links.get k).timer = (s.links.get k).timer ∧
      ((s.regReset).links.get k).shortTaken = (s.links.get k).shortTaken ∧ ((s.regReset).links.get k).longTaken = (s.links.get k).longTaken ∧
      ((s.regReset).links.get k).shortN = (s.links.get k).shortN ∧ ((s.regReset).links.get k).longN = (s.links.get k).longN ∧
      ((s.regReset).links.get k).rxQueue = (s.links.get k).rxQueue ∧ ((s.regReset).links.get k).part = (s.links.get k).part ∧
      ((s.regReset).links.get k).batch = (s.links.get k).batch ∧ ((s.regReset).links.get k).snapshot = (s.links.get k).snapshot ∧
      ((s.regReset).links.get k).mask = (s.links.get k).mask ∧ ((s.regReset).links.get k).echo = (s.links.get k).echo := by
  simp [State.regReset]

@[simp] theorem State.regReset_uart  (s : State) :
    ((s.regReset).links.get .p).sent = (s.links.get .p).sent ∧
      ((s.regReset).links.get .t).sent = (s.links.get .t).sent := by
  simp [State.regReset]

@[simp] theorem State.placeInternal_frame (o : Origin) (t v n : Nat) (s : State) :
    (s.placeInternal o t v n).pending = s.pending ∧ (s.placeInternal o t v n).phase = s.phase ∧
      (s.placeInternal o t v n).mu = s.mu ∧ (s.placeInternal o t v n).prev = s.prev ∧
      (s.placeInternal o t v n).acct = s.acct ∧ (s.placeInternal o t v n).chg = s.chg ∧
      (s.placeInternal o t v n).set = s.set ∧ (s.placeInternal o t v n).inForce = s.inForce ∧ (s.placeInternal o t v n).test = s.test ∧
      (s.placeInternal o t v n).alloc = s.alloc ∧ (s.placeInternal o t v n).mot = s.mot ∧
      (s.placeInternal o t v n).wind = s.wind ∧ (s.placeInternal o t v n).can = s.can ∧
      (s.placeInternal o t v n).vehicle = s.vehicle ∧ (s.placeInternal o t v n).log = s.log ∧
      (s.placeInternal o t v n).store = s.store ∧ (s.placeInternal o t v n).handling = s.handling := by
  unfold State.placeInternal; (try dsimp only); (repeat' split) <;> simp

@[simp] theorem State.placeInternal_lk (o : Origin) (t v n : Nat) (s : State) (k : Link) :
    ((s.placeInternal o t v n).links.get k).live = (s.links.get k).live ∧ ((s.placeInternal o t v n).links.get k).timer = (s.links.get k).timer ∧
      ((s.placeInternal o t v n).links.get k).shortTaken = (s.links.get k).shortTaken ∧ ((s.placeInternal o t v n).links.get k).longTaken = (s.links.get k).longTaken ∧
      ((s.placeInternal o t v n).links.get k).shortN = (s.links.get k).shortN ∧ ((s.placeInternal o t v n).links.get k).longN = (s.links.get k).longN ∧
      ((s.placeInternal o t v n).links.get k).rxQueue = (s.links.get k).rxQueue ∧ ((s.placeInternal o t v n).links.get k).part = (s.links.get k).part ∧
      ((s.placeInternal o t v n).links.get k).batch = (s.links.get k).batch ∧ ((s.placeInternal o t v n).links.get k).snapshot = (s.links.get k).snapshot ∧
      ((s.placeInternal o t v n).links.get k).mask = (s.links.get k).mask ∧ ((s.placeInternal o t v n).links.get k).echo = (s.links.get k).echo := by
  unfold State.placeInternal; (try dsimp only); (repeat' split) <;> simp

@[simp] theorem State.placeInternal_uart (o : Origin) (t v n : Nat) (s : State) :
    ((s.placeInternal o t v n).links.get .p).sent = (s.links.get .p).sent ∧
      ((s.placeInternal o t v n).links.get .t).sent = (s.links.get .t).sent := by
  unfold State.placeInternal; (try dsimp only); (repeat' split) <;> simp

@[simp] theorem State.withdrawInternal_frame (o : Origin) (t : Nat) (s : State) :
    (s.withdrawInternal o t).pending = s.pending ∧ (s.withdrawInternal o t).phase = s.phase ∧
      (s.withdrawInternal o t).mu = s.mu ∧ (s.withdrawInternal o t).prev = s.prev ∧
      (s.withdrawInternal o t).acct = s.acct ∧ (s.withdrawInternal o t).chg = s.chg ∧
      (s.withdrawInternal o t).set = s.set ∧ (s.withdrawInternal o t).inForce = s.inForce ∧ (s.withdrawInternal o t).test = s.test ∧
      (s.withdrawInternal o t).alloc = s.alloc ∧ (s.withdrawInternal o t).mot = s.mot ∧
      (s.withdrawInternal o t).wind = s.wind ∧ (s.withdrawInternal o t).can = s.can ∧
      (s.withdrawInternal o t).vehicle = s.vehicle ∧ (s.withdrawInternal o t).log = s.log ∧
      (s.withdrawInternal o t).store = s.store ∧ (s.withdrawInternal o t).handling = s.handling := by
  unfold State.withdrawInternal; (try dsimp only); (repeat' split) <;> simp

@[simp] theorem State.withdrawInternal_lk (o : Origin) (t : Nat) (s : State) (k : Link) :
    ((s.withdrawInternal o t).links.get k).live = (s.links.get k).live ∧ ((s.withdrawInternal o t).links.get k).timer = (s.links.get k).timer ∧
      ((s.withdrawInternal o t).links.get k).shortTaken = (s.links.get k).shortTaken ∧ ((s.withdrawInternal o t).links.get k).longTaken = (s.links.get k).longTaken ∧
      ((s.withdrawInternal o t).links.get k).shortN = (s.links.get k).shortN ∧ ((s.withdrawInternal o t).links.get k).longN = (s.links.get k).longN ∧
      ((s.withdrawInternal o t).links.get k).rxQueue = (s.links.get k).rxQueue ∧ ((s.withdrawInternal o t).links.get k).part = (s.links.get k).part ∧
      ((s.withdrawInternal o t).links.get k).batch = (s.links.get k).batch ∧ ((s.withdrawInternal o t).links.get k).snapshot = (s.links.get k).snapshot ∧
      ((s.withdrawInternal o t).links.get k).mask = (s.links.get k).mask ∧ ((s.withdrawInternal o t).links.get k).echo = (s.links.get k).echo := by
  unfold State.withdrawInternal; (try dsimp only); (repeat' split) <;> simp

@[simp] theorem State.withdrawInternal_uart (o : Origin) (t : Nat) (s : State) :
    ((s.withdrawInternal o t).links.get .p).sent = (s.links.get .p).sent ∧
      ((s.withdrawInternal o t).links.get .t).sent = (s.links.get .t).sent := by
  unfold State.withdrawInternal; (try dsimp only); (repeat' split) <;> simp

end Sys2Proof.Machine
end

