-- ==== Sys2Proof/Laws/Motion.lean ====
section
/-!
SUPPORT. What the operations of the motion controllers leave unchanged.
-/

namespace Sys2Proof.Machine

@[simp] theorem State.stepLight_frame (a b : MotionState) (s : State) :
    (s.stepLight a b).pending = s.pending ∧ (s.stepLight a b).phase = s.phase ∧
      (s.stepLight a b).mu = s.mu ∧ (s.stepLight a b).prev = s.prev ∧
      (s.stepLight a b).acct = s.acct ∧ (s.stepLight a b).chg = s.chg ∧
      (s.stepLight a b).set = s.set ∧ (s.stepLight a b).inForce = s.inForce ∧ (s.stepLight a b).test = s.test ∧
      (s.stepLight a b).alloc = s.alloc ∧ (s.stepLight a b).mot = s.mot ∧
      (s.stepLight a b).wind = s.wind ∧ (s.stepLight a b).can = s.can ∧
      (s.stepLight a b).vehicle = s.vehicle ∧ (s.stepLight a b).log = s.log ∧
      (s.stepLight a b).store = s.store ∧ (s.stepLight a b).handling = s.handling := by
  unfold State.stepLight; (try dsimp only); (repeat' split) <;> simp

@[simp] theorem State.stepLight_lk (a b : MotionState) (s : State) (k : Link) :
    ((s.stepLight a b).links.get k).live = (s.links.get k).live ∧ ((s.stepLight a b).links.get k).timer = (s.links.get k).timer ∧
      ((s.stepLight a b).links.get k).shortTaken = (s.links.get k).shortTaken ∧ ((s.stepLight a b).links.get k).longTaken = (s.links.get k).longTaken ∧
      ((s.stepLight a b).links.get k).shortN = (s.links.get k).shortN ∧ ((s.stepLight a b).links.get k).longN = (s.links.get k).longN ∧
      ((s.stepLight a b).links.get k).rxQueue = (s.links.get k).rxQueue ∧ ((s.stepLight a b).links.get k).part = (s.links.get k).part ∧
      ((s.stepLight a b).links.get k).batch = (s.links.get k).batch ∧ ((s.stepLight a b).links.get k).snapshot = (s.links.get k).snapshot ∧
      ((s.stepLight a b).links.get k).mask = (s.links.get k).mask ∧ ((s.stepLight a b).links.get k).echo = (s.links.get k).echo := by
  unfold State.stepLight; (try dsimp only); (repeat' split) <;> simp

@[simp] theorem State.stepLight_uart (a b : MotionState) (s : State) :
    ((s.stepLight a b).links.get .p).sent = (s.links.get .p).sent ∧
      ((s.stepLight a b).links.get .t).sent = (s.links.get .t).sent := by
  unfold State.stepLight; (try dsimp only); (repeat' split) <;> simp

@[simp] theorem State.putMotion_frame (x : Bool) (d : Device) (b : MotionState) (f : Motion → Motion) (s : State) :
    (s.putMotion x d b f).pending = s.pending ∧ (s.putMotion x d b f).phase = s.phase ∧
      (s.putMotion x d b f).mu = s.mu ∧ (s.putMotion x d b f).prev = s.prev ∧
      (s.putMotion x d b f).acct = s.acct ∧ (s.putMotion x d b f).chg = s.chg ∧
      (s.putMotion x d b f).set = s.set ∧ (s.putMotion x d b f).inForce = s.inForce ∧ (s.putMotion x d b f).test = s.test ∧
      (s.putMotion x d b f).alloc = s.alloc ∧ (s.putMotion x d b f).wind = s.wind ∧
      (s.putMotion x d b f).can = s.can ∧ (s.putMotion x d b f).vehicle = s.vehicle ∧
      (s.putMotion x d b f).log = s.log ∧ (s.putMotion x d b f).store = s.store ∧
      (s.putMotion x d b f).handling = s.handling := by
  unfold State.putMotion; (try dsimp only); (repeat' split) <;> simp

@[simp] theorem State.putMotion_lk (x : Bool) (d : Device) (b : MotionState) (f : Motion → Motion) (s : State) (k : Link) :
    ((s.putMotion x d b f).links.get k).live = (s.links.get k).live ∧ ((s.putMotion x d b f).links.get k).timer = (s.links.get k).timer ∧
      ((s.putMotion x d b f).links.get k).shortTaken = (s.links.get k).shortTaken ∧ ((s.putMotion x d b f).links.get k).longTaken = (s.links.get k).longTaken ∧
      ((s.putMotion x d b f).links.get k).shortN = (s.links.get k).shortN ∧ ((s.putMotion x d b f).links.get k).longN = (s.links.get k).longN ∧
      ((s.putMotion x d b f).links.get k).rxQueue = (s.links.get k).rxQueue ∧ ((s.putMotion x d b f).links.get k).part = (s.links.get k).part ∧
      ((s.putMotion x d b f).links.get k).batch = (s.links.get k).batch ∧ ((s.putMotion x d b f).links.get k).snapshot = (s.links.get k).snapshot ∧
      ((s.putMotion x d b f).links.get k).mask = (s.links.get k).mask ∧ ((s.putMotion x d b f).links.get k).echo = (s.links.get k).echo := by
  unfold State.putMotion; (try dsimp only); (repeat' split) <;> simp

@[simp] theorem State.putMotion_uart (x : Bool) (d : Device) (b : MotionState) (f : Motion → Motion) (s : State) :
    ((s.putMotion x d b f).links.get .p).sent = (s.links.get .p).sent ∧
      ((s.putMotion x d b f).links.get .t).sent = (s.links.get .t).sent := by
  unfold State.putMotion; (try dsimp only); (repeat' split) <;> simp

@[simp] theorem State.setMotion_frame (d : Device) (b : MotionState) (f : Motion → Motion) (s : State) :
    (s.setMotion d b f).pending = s.pending ∧ (s.setMotion d b f).phase = s.phase ∧
      (s.setMotion d b f).mu = s.mu ∧ (s.setMotion d b f).prev = s.prev ∧
      (s.setMotion d b f).acct = s.acct ∧ (s.setMotion d b f).chg = s.chg ∧
      (s.setMotion d b f).set = s.set ∧ (s.setMotion d b f).inForce = s.inForce ∧ (s.setMotion d b f).test = s.test ∧
      (s.setMotion d b f).alloc = s.alloc ∧ (s.setMotion d b f).wind = s.wind ∧
      (s.setMotion d b f).can = s.can ∧ (s.setMotion d b f).vehicle = s.vehicle ∧
      (s.setMotion d b f).log = s.log ∧ (s.setMotion d b f).store = s.store ∧
      (s.setMotion d b f).handling = s.handling := by
  simp [State.setMotion]

@[simp] theorem State.setMotion_lk (d : Device) (b : MotionState) (f : Motion → Motion) (s : State) (k : Link) :
    ((s.setMotion d b f).links.get k).live = (s.links.get k).live ∧ ((s.setMotion d b f).links.get k).timer = (s.links.get k).timer ∧
      ((s.setMotion d b f).links.get k).shortTaken = (s.links.get k).shortTaken ∧ ((s.setMotion d b f).links.get k).longTaken = (s.links.get k).longTaken ∧
      ((s.setMotion d b f).links.get k).shortN = (s.links.get k).shortN ∧ ((s.setMotion d b f).links.get k).longN = (s.links.get k).longN ∧
      ((s.setMotion d b f).links.get k).rxQueue = (s.links.get k).rxQueue ∧ ((s.setMotion d b f).links.get k).part = (s.links.get k).part ∧
      ((s.setMotion d b f).links.get k).batch = (s.links.get k).batch ∧ ((s.setMotion d b f).links.get k).snapshot = (s.links.get k).snapshot ∧
      ((s.setMotion d b f).links.get k).mask = (s.links.get k).mask ∧ ((s.setMotion d b f).links.get k).echo = (s.links.get k).echo := by
  simp [State.setMotion]

@[simp] theorem State.setMotion_uart (d : Device) (b : MotionState) (f : Motion → Motion) (s : State) :
    ((s.setMotion d b f).links.get .p).sent = (s.links.get .p).sent ∧
      ((s.setMotion d b f).links.get .t).sent = (s.links.get .t).sent := by
  simp [State.setMotion]

@[simp] theorem State.enterMove_frame (d : Device) (r : Dir) (s : State) :
    (s.enterMove d r).pending = s.pending ∧ (s.enterMove d r).phase = s.phase ∧
      (s.enterMove d r).mu = s.mu ∧ (s.enterMove d r).prev = s.prev ∧
      (s.enterMove d r).acct = s.acct ∧ (s.enterMove d r).chg = s.chg ∧
      (s.enterMove d r).set = s.set ∧ (s.enterMove d r).inForce = s.inForce ∧ (s.enterMove d r).test = s.test ∧
      (s.enterMove d r).alloc = s.alloc ∧ (s.enterMove d r).wind = s.wind ∧
      (s.enterMove d r).can = s.can ∧ (s.enterMove d r).vehicle = s.vehicle ∧
      (s.enterMove d r).log = s.log ∧ (s.enterMove d r).store = s.store ∧
      (s.enterMove d r).handling = s.handling := by
  simp [State.enterMove]

@[simp] theorem State.enterMove_lk (d : Device) (r : Dir) (s : State) (k : Link) :
    ((s.enterMove d r).links.get k).live = (s.links.get k).live ∧ ((s.enterMove d r).links.get k).timer = (s.links.get k).timer ∧
      ((s.enterMove d r).links.get k).shortTaken = (s.links.get k).shortTaken ∧ ((s.enterMove d r).links.get k).longTaken = (s.links.get k).longTaken ∧
      ((s.enterMove d r).links.get k).shortN = (s.links.get k).shortN ∧ ((s.enterMove d r).links.get k).longN = (s.links.get k).longN ∧
      ((s.enterMove d r).links.get k).rxQueue = (s.links.get k).rxQueue ∧ ((s.enterMove d r).links.get k).part = (s.links.get k).part ∧
      ((s.enterMove d r).links.get k).batch = (s.links.get k).batch ∧ ((s.enterMove d r).links.get k).snapshot = (s.links.get k).snapshot ∧
      ((s.enterMove d r).links.get k).mask = (s.links.get k).mask ∧ ((s.enterMove d r).links.get k).echo = (s.links.get k).echo := by
  simp [State.enterMove]

@[simp] theorem State.enterMove_uart (d : Device) (r : Dir) (s : State) :
    ((s.enterMove d r).links.get .p).sent = (s.links.get .p).sent ∧
      ((s.enterMove d r).links.get .t).sent = (s.links.get .t).sent := by
  simp [State.enterMove]

@[simp] theorem State.beginMove_frame (d : Device) (r : Dir) (c : CmdSource) (s : State) :
    (s.beginMove d r c).pending = s.pending ∧ (s.beginMove d r c).phase = s.phase ∧
      (s.beginMove d r c).mu = s.mu ∧ (s.beginMove d r c).prev = s.prev ∧
      (s.beginMove d r c).acct = s.acct ∧ (s.beginMove d r c).chg = s.chg ∧
      (s.beginMove d r c).set = s.set ∧ (s.beginMove d r c).inForce = s.inForce ∧ (s.beginMove d r c).test = s.test ∧
      (s.beginMove d r c).alloc = s.alloc ∧ (s.beginMove d r c).wind = s.wind ∧
      (s.beginMove d r c).can = s.can ∧ (s.beginMove d r c).vehicle = s.vehicle ∧
      (s.beginMove d r c).log = s.log ∧ (s.beginMove d r c).store = s.store ∧
      (s.beginMove d r c).handling = s.handling := by
  unfold State.beginMove; (try dsimp only); (repeat' split) <;> simp

@[simp] theorem State.beginMove_lk (d : Device) (r : Dir) (c : CmdSource) (s : State) (k : Link) :
    ((s.beginMove d r c).links.get k).live = (s.links.get k).live ∧ ((s.beginMove d r c).links.get k).timer = (s.links.get k).timer ∧
      ((s.beginMove d r c).links.get k).shortTaken = (s.links.get k).shortTaken ∧ ((s.beginMove d r c).links.get k).longTaken = (s.links.get k).longTaken ∧
      ((s.beginMove d r c).links.get k).shortN = (s.links.get k).shortN ∧ ((s.beginMove d r c).links.get k).longN = (s.links.get k).longN ∧
      ((s.beginMove d r c).links.get k).rxQueue = (s.links.get k).rxQueue ∧ ((s.beginMove d r c).links.get k).part = (s.links.get k).part ∧
      ((s.beginMove d r c).links.get k).batch = (s.links.get k).batch ∧ ((s.beginMove d r c).links.get k).snapshot = (s.links.get k).snapshot ∧
      ((s.beginMove d r c).links.get k).mask = (s.links.get k).mask ∧ ((s.beginMove d r c).links.get k).echo = (s.links.get k).echo := by
  unfold State.beginMove; (try dsimp only); (repeat' split) <;> simp

@[simp] theorem State.beginMove_uart (d : Device) (r : Dir) (c : CmdSource) (s : State) :
    ((s.beginMove d r c).links.get .p).sent = (s.links.get .p).sent ∧
      ((s.beginMove d r c).links.get .t).sent = (s.links.get .t).sent := by
  unfold State.beginMove; (try dsimp only); (repeat' split) <;> simp

@[simp] theorem State.redirect_frame (d : Device) (r : Dir) (c : CmdSource) (s : State) :
    (s.redirect d r c).pending = s.pending ∧ (s.redirect d r c).phase = s.phase ∧
      (s.redirect d r c).mu = s.mu ∧ (s.redirect d r c).prev = s.prev ∧
      (s.redirect d r c).acct = s.acct ∧ (s.redirect d r c).chg = s.chg ∧
      (s.redirect d r c).set = s.set ∧ (s.redirect d r c).inForce = s.inForce ∧ (s.redirect d r c).test = s.test ∧
      (s.redirect d r c).alloc = s.alloc ∧ (s.redirect d r c).wind = s.wind ∧
      (s.redirect d r c).can = s.can ∧ (s.redirect d r c).vehicle = s.vehicle ∧
      (s.redirect d r c).log = s.log ∧ (s.redirect d r c).store = s.store ∧
      (s.redirect d r c).handling = s.handling := by
  simp [State.redirect]

@[simp] theorem State.redirect_lk (d : Device) (r : Dir) (c : CmdSource) (s : State) (k : Link) :
    ((s.redirect d r c).links.get k).live = (s.links.get k).live ∧ ((s.redirect d r c).links.get k).timer = (s.links.get k).timer ∧
      ((s.redirect d r c).links.get k).shortTaken = (s.links.get k).shortTaken ∧ ((s.redirect d r c).links.get k).longTaken = (s.links.get k).longTaken ∧
      ((s.redirect d r c).links.get k).shortN = (s.links.get k).shortN ∧ ((s.redirect d r c).links.get k).longN = (s.links.get k).longN ∧
      ((s.redirect d r c).links.get k).rxQueue = (s.links.get k).rxQueue ∧ ((s.redirect d r c).links.get k).part = (s.links.get k).part ∧
      ((s.redirect d r c).links.get k).batch = (s.links.get k).batch ∧ ((s.redirect d r c).links.get k).snapshot = (s.links.get k).snapshot ∧
      ((s.redirect d r c).links.get k).mask = (s.links.get k).mask ∧ ((s.redirect d r c).links.get k).echo = (s.links.get k).echo := by
  simp [State.redirect]

@[simp] theorem State.redirect_uart (d : Device) (r : Dir) (c : CmdSource) (s : State) :
    ((s.redirect d r c).links.get .p).sent = (s.links.get .p).sent ∧
      ((s.redirect d r c).links.get .t).sent = (s.links.get .t).sent := by
  simp [State.redirect]

@[simp] theorem State.enterFault_frame (d : Device) (c : FaultCause) (s : State) :
    (s.enterFault d c).pending = s.pending ∧ (s.enterFault d c).phase = s.phase ∧
      (s.enterFault d c).mu = s.mu ∧ (s.enterFault d c).prev = s.prev ∧
      (s.enterFault d c).acct = s.acct ∧ (s.enterFault d c).chg = s.chg ∧
      (s.enterFault d c).set = s.set ∧ (s.enterFault d c).inForce = s.inForce ∧ (s.enterFault d c).test = s.test ∧
      (s.enterFault d c).alloc = s.alloc ∧ (s.enterFault d c).wind = s.wind ∧
      (s.enterFault d c).can = s.can ∧ (s.enterFault d c).vehicle = s.vehicle ∧
      (s.enterFault d c).log = s.log ∧ (s.enterFault d c).store = s.store ∧
      (s.enterFault d c).handling = s.handling := by
  simp [State.enterFault]

@[simp] theorem State.enterFault_lk (d : Device) (c : FaultCause) (s : State) (k : Link) :
    ((s.enterFault d c).links.get k).live = (s.links.get k).live ∧ ((s.enterFault d c).links.get k).timer = (s.links.get k).timer ∧
      ((s.enterFault d c).links.get k).shortTaken = (s.links.get k).shortTaken ∧ ((s.enterFault d c).links.get k).longTaken = (s.links.get k).longTaken ∧
      ((s.enterFault d c).links.get k).shortN = (s.links.get k).shortN ∧ ((s.enterFault d c).links.get k).longN = (s.links.get k).longN ∧
      ((s.enterFault d c).links.get k).rxQueue = (s.links.get k).rxQueue ∧ ((s.enterFault d c).links.get k).part = (s.links.get k).part ∧
      ((s.enterFault d c).links.get k).batch = (s.links.get k).batch ∧ ((s.enterFault d c).links.get k).snapshot = (s.links.get k).snapshot ∧
      ((s.enterFault d c).links.get k).mask = (s.links.get k).mask ∧ ((s.enterFault d c).links.get k).echo = (s.links.get k).echo := by
  simp [State.enterFault]

@[simp] theorem State.enterFault_uart (d : Device) (c : FaultCause) (s : State) :
    ((s.enterFault d c).links.get .p).sent = (s.links.get .p).sent ∧
      ((s.enterFault d c).links.get .t).sent = (s.links.get .t).sent := by
  simp [State.enterFault]

@[simp] theorem State.recomputeWith_frame (x : Bool) (d : Device) (s : State) :
    (s.recomputeWith x d).pending = s.pending ∧ (s.recomputeWith x d).phase = s.phase ∧
      (s.recomputeWith x d).mu = s.mu ∧ (s.recomputeWith x d).prev = s.prev ∧
      (s.recomputeWith x d).acct = s.acct ∧ (s.recomputeWith x d).chg = s.chg ∧
      (s.recomputeWith x d).set = s.set ∧ (s.recomputeWith x d).inForce = s.inForce ∧ (s.recomputeWith x d).test = s.test ∧
      (s.recomputeWith x d).alloc = s.alloc ∧ (s.recomputeWith x d).wind = s.wind ∧
      (s.recomputeWith x d).can = s.can ∧ (s.recomputeWith x d).vehicle = s.vehicle ∧
      (s.recomputeWith x d).log = s.log ∧ (s.recomputeWith x d).store = s.store ∧
      (s.recomputeWith x d).handling = s.handling := by
  simp [State.recomputeWith]

@[simp] theorem State.recomputeWith_lk (x : Bool) (d : Device) (s : State) (k : Link) :
    ((s.recomputeWith x d).links.get k).live = (s.links.get k).live ∧ ((s.recomputeWith x d).links.get k).timer = (s.links.get k).timer ∧
      ((s.recomputeWith x d).links.get k).shortTaken = (s.links.get k).shortTaken ∧ ((s.recomputeWith x d).links.get k).longTaken = (s.links.get k).longTaken ∧
      ((s.recomputeWith x d).links.get k).shortN = (s.links.get k).shortN ∧ ((s.recomputeWith x d).links.get k).longN = (s.links.get k).longN ∧
      ((s.recomputeWith x d).links.get k).rxQueue = (s.links.get k).rxQueue ∧ ((s.recomputeWith x d).links.get k).part = (s.links.get k).part ∧
      ((s.recomputeWith x d).links.get k).batch = (s.links.get k).batch ∧ ((s.recomputeWith x d).links.get k).snapshot = (s.links.get k).snapshot ∧
      ((s.recomputeWith x d).links.get k).mask = (s.links.get k).mask ∧ ((s.recomputeWith x d).links.get k).echo = (s.links.get k).echo := by
  simp [State.recomputeWith]

@[simp] theorem State.recomputeWith_uart (x : Bool) (d : Device) (s : State) :
    ((s.recomputeWith x d).links.get .p).sent = (s.links.get .p).sent ∧
      ((s.recomputeWith x d).links.get .t).sent = (s.links.get .t).sent := by
  simp [State.recomputeWith]

@[simp] theorem State.recompute_frame (d : Device) (s : State) :
    (s.recompute d).pending = s.pending ∧ (s.recompute d).phase = s.phase ∧
      (s.recompute d).mu = s.mu ∧ (s.recompute d).prev = s.prev ∧
      (s.recompute d).acct = s.acct ∧ (s.recompute d).chg = s.chg ∧
      (s.recompute d).set = s.set ∧ (s.recompute d).inForce = s.inForce ∧ (s.recompute d).test = s.test ∧
      (s.recompute d).alloc = s.alloc ∧ (s.recompute d).wind = s.wind ∧
      (s.recompute d).can = s.can ∧ (s.recompute d).vehicle = s.vehicle ∧
      (s.recompute d).log = s.log ∧ (s.recompute d).store = s.store ∧
      (s.recompute d).handling = s.handling := by
  simp [State.recompute]

@[simp] theorem State.recompute_lk (d : Device) (s : State) (k : Link) :
    ((s.recompute d).links.get k).live = (s.links.get k).live ∧ ((s.recompute d).links.get k).timer = (s.links.get k).timer ∧
      ((s.recompute d).links.get k).shortTaken = (s.links.get k).shortTaken ∧ ((s.recompute d).links.get k).longTaken = (s.links.get k).longTaken ∧
      ((s.recompute d).links.get k).shortN = (s.links.get k).shortN ∧ ((s.recompute d).links.get k).longN = (s.links.get k).longN ∧
      ((s.recompute d).links.get k).rxQueue = (s.links.get k).rxQueue ∧ ((s.recompute d).links.get k).part = (s.links.get k).part ∧
      ((s.recompute d).links.get k).batch = (s.links.get k).batch ∧ ((s.recompute d).links.get k).snapshot = (s.links.get k).snapshot ∧
      ((s.recompute d).links.get k).mask = (s.links.get k).mask ∧ ((s.recompute d).links.get k).echo = (s.links.get k).echo := by
  simp [State.recompute]

@[simp] theorem State.recompute_uart (d : Device) (s : State) :
    ((s.recompute d).links.get .p).sent = (s.links.get .p).sent ∧
      ((s.recompute d).links.get .t).sent = (s.links.get .t).sent := by
  simp [State.recompute]

@[simp] theorem State.setTarget_frame (d : Device) (p : Nat) (s : State) :
    (s.setTarget d p).pending = s.pending ∧ (s.setTarget d p).phase = s.phase ∧
      (s.setTarget d p).mu = s.mu ∧ (s.setTarget d p).prev = s.prev ∧
      (s.setTarget d p).acct = s.acct ∧ (s.setTarget d p).chg = s.chg ∧
      (s.setTarget d p).set = s.set ∧ (s.setTarget d p).inForce = s.inForce ∧ (s.setTarget d p).tab = s.tab ∧
      (s.setTarget d p).test = s.test ∧ (s.setTarget d p).reg = s.reg ∧
      (s.setTarget d p).alloc = s.alloc ∧ (s.setTarget d p).clim = s.clim ∧
      (s.setTarget d p).water = s.water ∧ (s.setTarget d p).wind = s.wind ∧
      (s.setTarget d p).light = s.light ∧ (s.setTarget d p).links = s.links ∧
      (s.setTarget d p).can = s.can ∧ (s.setTarget d p).vehicle = s.vehicle ∧
      (s.setTarget d p).log = s.log ∧ (s.setTarget d p).store = s.store ∧
      (s.setTarget d p).handling = s.handling := by
  simp [State.setTarget]

/-- A command that passes its check does what it does; one that does not leaves the part as it is. -/
theorem State.checked_keeps {α : Type} (g : State → α) (c : Option Status) (go : State → State × Status) (s : State)
    (h : g (go s).1 = g s) : g (s.checked c go).1 = g s := by
  unfold State.checked; split
  · rfl
  · exact h

@[simp] theorem State.takeDeploy_frame (d : Device) (p : Nat) (b : Bool) (c : CmdSource) (s : State) :
    ((s.takeDeploy d p b c).1).pending = s.pending ∧ ((s.takeDeploy d p b c).1).phase = s.phase ∧
      ((s.takeDeploy d p b c).1).mu = s.mu ∧ ((s.takeDeploy d p b c).1).prev = s.prev ∧
      ((s.takeDeploy d p b c).1).acct = s.acct ∧ ((s.takeDeploy d p b c).1).chg = s.chg ∧
      ((s.takeDeploy d p b c).1).set = s.set ∧ ((s.takeDeploy d p b c).1).inForce = s.inForce ∧ ((s.takeDeploy d p b c).1).test = s.test ∧
      ((s.takeDeploy d p b c).1).alloc = s.alloc ∧ ((s.takeDeploy d p b c).1).wind = s.wind ∧
      ((s.takeDeploy d p b c).1).can = s.can ∧ ((s.takeDeploy d p b c).1).vehicle = s.vehicle ∧
      ((s.takeDeploy d p b c).1).log = s.log ∧ ((s.takeDeploy d p b c).1).store = s.store ∧
      ((s.takeDeploy d p b c).1).handling = s.handling := by
  unfold State.takeDeploy; (try dsimp only); (repeat' split) <;> (try simp only [State.checked]) <;> (repeat' split) <;> simp

@[simp] theorem State.takeDeploy_lk (d : Device) (p : Nat) (b : Bool) (c : CmdSource) (s : State) (k : Link) :
    (((s.takeDeploy d p b c).1).links.get k).live = (s.links.get k).live ∧ (((s.takeDeploy d p b c).1).links.get k).timer = (s.links.get k).timer ∧
      (((s.takeDeploy d p b c).1).links.get k).shortTaken = (s.links.get k).shortTaken ∧ (((s.takeDeploy d p b c).1).links.get k).longTaken = (s.links.get k).longTaken ∧
      (((s.takeDeploy d p b c).1).links.get k).shortN = (s.links.get k).shortN ∧ (((s.takeDeploy d p b c).1).links.get k).longN = (s.links.get k).longN ∧
      (((s.takeDeploy d p b c).1).links.get k).rxQueue = (s.links.get k).rxQueue ∧ (((s.takeDeploy d p b c).1).links.get k).part = (s.links.get k).part ∧
      (((s.takeDeploy d p b c).1).links.get k).batch = (s.links.get k).batch ∧ (((s.takeDeploy d p b c).1).links.get k).snapshot = (s.links.get k).snapshot ∧
      (((s.takeDeploy d p b c).1).links.get k).mask = (s.links.get k).mask ∧ (((s.takeDeploy d p b c).1).links.get k).echo = (s.links.get k).echo := by
  unfold State.takeDeploy; (try dsimp only); (repeat' split) <;> (try simp only [State.checked]) <;> (repeat' split) <;> simp

@[simp] theorem State.takeDeploy_uart (d : Device) (p : Nat) (b : Bool) (c : CmdSource) (s : State) :
    (((s.takeDeploy d p b c).1).links.get .p).sent = (s.links.get .p).sent ∧
      (((s.takeDeploy d p b c).1).links.get .t).sent = (s.links.get .t).sent := by
  unfold State.takeDeploy; (try dsimp only); (repeat' split) <;> (try simp only [State.checked]) <;> (repeat' split) <;> simp

@[simp] theorem State.takeStow_frame (d : Device) (c : CmdSource) (s : State) :
    ((s.takeStow d c).1).pending = s.pending ∧ ((s.takeStow d c).1).phase = s.phase ∧
      ((s.takeStow d c).1).mu = s.mu ∧ ((s.takeStow d c).1).prev = s.prev ∧
      ((s.takeStow d c).1).acct = s.acct ∧ ((s.takeStow d c).1).chg = s.chg ∧
      ((s.takeStow d c).1).set = s.set ∧ ((s.takeStow d c).1).inForce = s.inForce ∧ ((s.takeStow d c).1).test = s.test ∧
      ((s.takeStow d c).1).alloc = s.alloc ∧ ((s.takeStow d c).1).wind = s.wind ∧
      ((s.takeStow d c).1).can = s.can ∧ ((s.takeStow d c).1).vehicle = s.vehicle ∧
      ((s.takeStow d c).1).log = s.log ∧ ((s.takeStow d c).1).store = s.store ∧
      ((s.takeStow d c).1).handling = s.handling := by
  unfold State.takeStow; (try dsimp only); (repeat' split) <;> (try simp only [State.checked]) <;> (repeat' split) <;> simp

@[simp] theorem State.takeStow_lk (d : Device) (c : CmdSource) (s : State) (k : Link) :
    (((s.takeStow d c).1).links.get k).live = (s.links.get k).live ∧ (((s.takeStow d c).1).links.get k).timer = (s.links.get k).timer ∧
      (((s.takeStow d c).1).links.get k).shortTaken = (s.links.get k).shortTaken ∧ (((s.takeStow d c).1).links.get k).longTaken = (s.links.get k).longTaken ∧
      (((s.takeStow d c).1).links.get k).shortN = (s.links.get k).shortN ∧ (((s.takeStow d c).1).links.get k).longN = (s.links.get k).longN ∧
      (((s.takeStow d c).1).links.get k).rxQueue = (s.links.get k).rxQueue ∧ (((s.takeStow d c).1).links.get k).part = (s.links.get k).part ∧
      (((s.takeStow d c).1).links.get k).batch = (s.links.get k).batch ∧ (((s.takeStow d c).1).links.get k).snapshot = (s.links.get k).snapshot ∧
      (((s.takeStow d c).1).links.get k).mask = (s.links.get k).mask ∧ (((s.takeStow d c).1).links.get k).echo = (s.links.get k).echo := by
  unfold State.takeStow; (try dsimp only); (repeat' split) <;> (try simp only [State.checked]) <;> (repeat' split) <;> simp

@[simp] theorem State.takeStow_uart (d : Device) (c : CmdSource) (s : State) :
    (((s.takeStow d c).1).links.get .p).sent = (s.links.get .p).sent ∧
      (((s.takeStow d c).1).links.get .t).sent = (s.links.get .t).sent := by
  unfold State.takeStow; (try dsimp only); (repeat' split) <;> (try simp only [State.checked]) <;> (repeat' split) <;> simp

@[simp] theorem State.takeHalt_frame (d : Device) (s : State) :
    ((s.takeHalt d).1).pending = s.pending ∧ ((s.takeHalt d).1).phase = s.phase ∧
      ((s.takeHalt d).1).mu = s.mu ∧ ((s.takeHalt d).1).prev = s.prev ∧
      ((s.takeHalt d).1).acct = s.acct ∧ ((s.takeHalt d).1).chg = s.chg ∧
      ((s.takeHalt d).1).set = s.set ∧ ((s.takeHalt d).1).inForce = s.inForce ∧ ((s.takeHalt d).1).test = s.test ∧
      ((s.takeHalt d).1).alloc = s.alloc ∧ ((s.takeHalt d).1).wind = s.wind ∧
      ((s.takeHalt d).1).can = s.can ∧ ((s.takeHalt d).1).vehicle = s.vehicle ∧
      ((s.takeHalt d).1).log = s.log ∧ ((s.takeHalt d).1).store = s.store ∧
      ((s.takeHalt d).1).handling = s.handling := by
  unfold State.takeHalt; (try dsimp only); (repeat' split) <;> simp

@[simp] theorem State.takeHalt_lk (d : Device) (s : State) (k : Link) :
    (((s.takeHalt d).1).links.get k).live = (s.links.get k).live ∧ (((s.takeHalt d).1).links.get k).timer = (s.links.get k).timer ∧
      (((s.takeHalt d).1).links.get k).shortTaken = (s.links.get k).shortTaken ∧ (((s.takeHalt d).1).links.get k).longTaken = (s.links.get k).longTaken ∧
      (((s.takeHalt d).1).links.get k).shortN = (s.links.get k).shortN ∧ (((s.takeHalt d).1).links.get k).longN = (s.links.get k).longN ∧
      (((s.takeHalt d).1).links.get k).rxQueue = (s.links.get k).rxQueue ∧ (((s.takeHalt d).1).links.get k).part = (s.links.get k).part ∧
      (((s.takeHalt d).1).links.get k).batch = (s.links.get k).batch ∧ (((s.takeHalt d).1).links.get k).snapshot = (s.links.get k).snapshot ∧
      (((s.takeHalt d).1).links.get k).mask = (s.links.get k).mask ∧ (((s.takeHalt d).1).links.get k).echo = (s.links.get k).echo := by
  unfold State.takeHalt; (try dsimp only); (repeat' split) <;> simp

@[simp] theorem State.takeHalt_uart (d : Device) (s : State) :
    (((s.takeHalt d).1).links.get .p).sent = (s.links.get .p).sent ∧
      (((s.takeHalt d).1).links.get .t).sent = (s.links.get .t).sent := by
  unfold State.takeHalt; (try dsimp only); (repeat' split) <;> simp

@[simp] theorem State.motionCommand_frame (d : Device) (m : MotionCmd) (c : CmdSource) (s : State) :
    ((s.motionCommand d m c).1).pending = s.pending ∧ ((s.motionCommand d m c).1).phase = s.phase ∧
      ((s.motionCommand d m c).1).mu = s.mu ∧ ((s.motionCommand d m c).1).prev = s.prev ∧
      ((s.motionCommand d m c).1).acct = s.acct ∧ ((s.motionCommand d m c).1).chg = s.chg ∧
      ((s.motionCommand d m c).1).set = s.set ∧ ((s.motionCommand d m c).1).inForce = s.inForce ∧ ((s.motionCommand d m c).1).test = s.test ∧
      ((s.motionCommand d m c).1).alloc = s.alloc ∧ ((s.motionCommand d m c).1).wind = s.wind ∧
      ((s.motionCommand d m c).1).can = s.can ∧ ((s.motionCommand d m c).1).vehicle = s.vehicle ∧
      ((s.motionCommand d m c).1).log = s.log ∧ ((s.motionCommand d m c).1).store = s.store ∧
      ((s.motionCommand d m c).1).handling = s.handling := by
  unfold State.motionCommand; (try dsimp only); (repeat' split) <;> simp

@[simp] theorem State.motionCommand_lk (d : Device) (m : MotionCmd) (c : CmdSource) (s : State) (k : Link) :
    (((s.motionCommand d m c).1).links.get k).live = (s.links.get k).live ∧ (((s.motionCommand d m c).1).links.get k).timer = (s.links.get k).timer ∧
      (((s.motionCommand d m c).1).links.get k).shortTaken = (s.links.get k).shortTaken ∧ (((s.motionCommand d m c).1).links.get k).longTaken = (s.links.get k).longTaken ∧
      (((s.motionCommand d m c).1).links.get k).shortN = (s.links.get k).shortN ∧ (((s.motionCommand d m c).1).links.get k).longN = (s.links.get k).longN ∧
      (((s.motionCommand d m c).1).links.get k).rxQueue = (s.links.get k).rxQueue ∧ (((s.motionCommand d m c).1).links.get k).part = (s.links.get k).part ∧
      (((s.motionCommand d m c).1).links.get k).batch = (s.links.get k).batch ∧ (((s.motionCommand d m c).1).links.get k).snapshot = (s.links.get k).snapshot ∧
      (((s.motionCommand d m c).1).links.get k).mask = (s.links.get k).mask ∧ (((s.motionCommand d m c).1).links.get k).echo = (s.links.get k).echo := by
  unfold State.motionCommand; (try dsimp only); (repeat' split) <;> simp

@[simp] theorem State.motionCommand_uart (d : Device) (m : MotionCmd) (c : CmdSource) (s : State) :
    (((s.motionCommand d m c).1).links.get .p).sent = (s.links.get .p).sent ∧
      (((s.motionCommand d m c).1).links.get .t).sent = (s.links.get .t).sent := by
  unfold State.motionCommand; (try dsimp only); (repeat' split) <;> simp

@[simp] theorem State.motionCut_frame (d : Device) (s : State) :
    (s.motionCut d).pending = s.pending ∧ (s.motionCut d).phase = s.phase ∧
      (s.motionCut d).mu = s.mu ∧ (s.motionCut d).prev = s.prev ∧
      (s.motionCut d).acct = s.acct ∧ (s.motionCut d).chg = s.chg ∧
      (s.motionCut d).set = s.set ∧ (s.motionCut d).inForce = s.inForce ∧ (s.motionCut d).test = s.test ∧
      (s.motionCut d).alloc = s.alloc ∧ (s.motionCut d).wind = s.wind ∧
      (s.motionCut d).can = s.can ∧ (s.motionCut d).vehicle = s.vehicle ∧
      (s.motionCut d).log = s.log ∧ (s.motionCut d).store = s.store ∧
      (s.motionCut d).handling = s.handling := by
  unfold State.motionCut; (try dsimp only); (repeat' split) <;> simp

@[simp] theorem State.motionCut_lk (d : Device) (s : State) (k : Link) :
    ((s.motionCut d).links.get k).live = (s.links.get k).live ∧ ((s.motionCut d).links.get k).timer = (s.links.get k).timer ∧
      ((s.motionCut d).links.get k).shortTaken = (s.links.get k).shortTaken ∧ ((s.motionCut d).links.get k).longTaken = (s.links.get k).longTaken ∧
      ((s.motionCut d).links.get k).shortN = (s.links.get k).shortN ∧ ((s.motionCut d).links.get k).longN = (s.links.get k).longN ∧
      ((s.motionCut d).links.get k).rxQueue = (s.links.get k).rxQueue ∧ ((s.motionCut d).links.get k).part = (s.links.get k).part ∧
      ((s.motionCut d).links.get k).batch = (s.links.get k).batch ∧ ((s.motionCut d).links.get k).snapshot = (s.links.get k).snapshot ∧
      ((s.motionCut d).links.get k).mask = (s.links.get k).mask ∧ ((s.motionCut d).links.get k).echo = (s.links.get k).echo := by
  unfold State.motionCut; (try dsimp only); (repeat' split) <;> simp

@[simp] theorem State.motionCut_uart (d : Device) (s : State) :
    ((s.motionCut d).links.get .p).sent = (s.links.get .p).sent ∧
      ((s.motionCut d).links.get .t).sent = (s.links.get .t).sent := by
  unfold State.motionCut; (try dsimp only); (repeat' split) <;> simp

@[simp] theorem State.driveAway_frame (s : State) :
    (s.driveAway).pending = s.pending ∧ (s.driveAway).phase = s.phase ∧
      (s.driveAway).mu = s.mu ∧ (s.driveAway).prev = s.prev ∧
      (s.driveAway).acct = s.acct ∧ (s.driveAway).chg = s.chg ∧
      (s.driveAway).set = s.set ∧ (s.driveAway).inForce = s.inForce ∧ (s.driveAway).test = s.test ∧
      (s.driveAway).alloc = s.alloc ∧ (s.driveAway).wind = s.wind ∧
      (s.driveAway).can = s.can ∧ (s.driveAway).vehicle = s.vehicle ∧
      (s.driveAway).store = s.store ∧ (s.driveAway).handling = s.handling := by
  unfold State.driveAway; (try dsimp only); (repeat' split) <;> simp

@[simp] theorem State.driveAway_lk (s : State) (k : Link) :
    ((s.driveAway).links.get k).live = (s.links.get k).live ∧ ((s.driveAway).links.get k).timer = (s.links.get k).timer ∧
      ((s.driveAway).links.get k).shortTaken = (s.links.get k).shortTaken ∧ ((s.driveAway).links.get k).longTaken = (s.links.get k).longTaken ∧
      ((s.driveAway).links.get k).shortN = (s.links.get k).shortN ∧ ((s.driveAway).links.get k).longN = (s.links.get k).longN ∧
      ((s.driveAway).links.get k).rxQueue = (s.links.get k).rxQueue ∧ ((s.driveAway).links.get k).part = (s.links.get k).part ∧
      ((s.driveAway).links.get k).batch = (s.links.get k).batch ∧ ((s.driveAway).links.get k).snapshot = (s.links.get k).snapshot ∧
      ((s.driveAway).links.get k).mask = (s.links.get k).mask ∧ ((s.driveAway).links.get k).echo = (s.links.get k).echo := by
  unfold State.driveAway; (try dsimp only); (repeat' split) <;> simp

@[simp] theorem State.driveAway_uart (s : State) :
    ((s.driveAway).links.get .p).sent = (s.links.get .p).sent ∧
      ((s.driveAway).links.get .t).sent = (s.links.get .t).sent := by
  unfold State.driveAway; (try dsimp only); (repeat' split) <;> simp

@[simp] theorem State.awningIgn_frame  (s : State) :
    (s.awningIgn).pending = s.pending ∧ (s.awningIgn).phase = s.phase ∧
      (s.awningIgn).mu = s.mu ∧ (s.awningIgn).prev = s.prev ∧
      (s.awningIgn).acct = s.acct ∧ (s.awningIgn).chg = s.chg ∧
      (s.awningIgn).set = s.set ∧ (s.awningIgn).inForce = s.inForce ∧ (s.awningIgn).test = s.test ∧
      (s.awningIgn).alloc = s.alloc ∧ (s.awningIgn).wind = s.wind ∧
      (s.awningIgn).can = s.can ∧ (s.awningIgn).vehicle = s.vehicle ∧
      (s.awningIgn).store = s.store ∧ (s.awningIgn).handling = s.handling := by
  unfold State.awningIgn; (try dsimp only); (repeat' split) <;> simp

@[simp] theorem State.awningIgn_lk  (s : State) (k : Link) :
    ((s.awningIgn).links.get k).live = (s.links.get k).live ∧ ((s.awningIgn).links.get k).timer = (s.links.get k).timer ∧
      ((s.awningIgn).links.get k).shortTaken = (s.links.get k).shortTaken ∧ ((s.awningIgn).links.get k).longTaken = (s.links.get k).longTaken ∧
      ((s.awningIgn).links.get k).shortN = (s.links.get k).shortN ∧ ((s.awningIgn).links.get k).longN = (s.links.get k).longN ∧
      ((s.awningIgn).links.get k).rxQueue = (s.links.get k).rxQueue ∧ ((s.awningIgn).links.get k).part = (s.links.get k).part ∧
      ((s.awningIgn).links.get k).batch = (s.links.get k).batch ∧ ((s.awningIgn).links.get k).snapshot = (s.links.get k).snapshot ∧
      ((s.awningIgn).links.get k).mask = (s.links.get k).mask ∧ ((s.awningIgn).links.get k).echo = (s.links.get k).echo := by
  unfold State.awningIgn; (try dsimp only); (repeat' split) <;> simp

@[simp] theorem State.awningIgn_uart  (s : State) :
    ((s.awningIgn).links.get .p).sent = (s.links.get .p).sent ∧
      ((s.awningIgn).links.get .t).sent = (s.links.get .t).sent := by
  unfold State.awningIgn; (try dsimp only); (repeat' split) <;> simp

@[simp] theorem State.motionStep1_frame (d : Device) (s : State) :
    (s.motionStep1 d).pending = s.pending ∧ (s.motionStep1 d).phase = s.phase ∧
      (s.motionStep1 d).mu = s.mu ∧ (s.motionStep1 d).prev = s.prev ∧
      (s.motionStep1 d).acct = s.acct ∧ (s.motionStep1 d).chg = s.chg ∧
      (s.motionStep1 d).set = s.set ∧ (s.motionStep1 d).inForce = s.inForce ∧ (s.motionStep1 d).test = s.test ∧
      (s.motionStep1 d).alloc = s.alloc ∧ (s.motionStep1 d).wind = s.wind ∧
      (s.motionStep1 d).can = s.can ∧ (s.motionStep1 d).vehicle = s.vehicle ∧
      (s.motionStep1 d).store = s.store ∧ (s.motionStep1 d).handling = s.handling := by
  unfold State.motionStep1; (try dsimp only); (repeat' split) <;> simp

@[simp] theorem State.motionStep1_lk (d : Device) (s : State) (k : Link) :
    ((s.motionStep1 d).links.get k).live = (s.links.get k).live ∧ ((s.motionStep1 d).links.get k).timer = (s.links.get k).timer ∧
      ((s.motionStep1 d).links.get k).shortTaken = (s.links.get k).shortTaken ∧ ((s.motionStep1 d).links.get k).longTaken = (s.links.get k).longTaken ∧
      ((s.motionStep1 d).links.get k).shortN = (s.links.get k).shortN ∧ ((s.motionStep1 d).links.get k).longN = (s.links.get k).longN ∧
      ((s.motionStep1 d).links.get k).rxQueue = (s.links.get k).rxQueue ∧ ((s.motionStep1 d).links.get k).part = (s.links.get k).part ∧
      ((s.motionStep1 d).links.get k).batch = (s.links.get k).batch ∧ ((s.motionStep1 d).links.get k).snapshot = (s.links.get k).snapshot ∧
      ((s.motionStep1 d).links.get k).mask = (s.links.get k).mask ∧ ((s.motionStep1 d).links.get k).echo = (s.links.get k).echo := by
  unfold State.motionStep1; (try dsimp only); (repeat' split) <;> simp

@[simp] theorem State.motionStep1_uart (d : Device) (s : State) :
    ((s.motionStep1 d).links.get .p).sent = (s.links.get .p).sent ∧
      ((s.motionStep1 d).links.get .t).sent = (s.links.get .t).sent := by
  unfold State.motionStep1; (try dsimp only); (repeat' split) <;> simp

@[simp] theorem State.motionStep2_frame (d : Device) (s : State) :
    (s.motionStep2 d).pending = s.pending ∧ (s.motionStep2 d).phase = s.phase ∧
      (s.motionStep2 d).mu = s.mu ∧ (s.motionStep2 d).prev = s.prev ∧
      (s.motionStep2 d).acct = s.acct ∧ (s.motionStep2 d).chg = s.chg ∧
      (s.motionStep2 d).set = s.set ∧ (s.motionStep2 d).inForce = s.inForce ∧ (s.motionStep2 d).tab = s.tab ∧
      (s.motionStep2 d).test = s.test ∧ (s.motionStep2 d).reg = s.reg ∧
      (s.motionStep2 d).alloc = s.alloc ∧ (s.motionStep2 d).clim = s.clim ∧
      (s.motionStep2 d).water = s.water ∧ (s.motionStep2 d).wind = s.wind ∧
      (s.motionStep2 d).light = s.light ∧ (s.motionStep2 d).links = s.links ∧
      (s.motionStep2 d).can = s.can ∧ (s.motionStep2 d).vehicle = s.vehicle ∧
      (s.motionStep2 d).log = s.log ∧ (s.motionStep2 d).store = s.store ∧
      (s.motionStep2 d).handling = s.handling := by
  simp [State.motionStep2]

@[simp] theorem State.motionStep3_frame (d : Device) (s : State) :
    (s.motionStep3 d).pending = s.pending ∧ (s.motionStep3 d).phase = s.phase ∧
      (s.motionStep3 d).mu = s.mu ∧ (s.motionStep3 d).prev = s.prev ∧
      (s.motionStep3 d).acct = s.acct ∧ (s.motionStep3 d).chg = s.chg ∧
      (s.motionStep3 d).set = s.set ∧ (s.motionStep3 d).inForce = s.inForce ∧ (s.motionStep3 d).test = s.test ∧
      (s.motionStep3 d).alloc = s.alloc ∧ (s.motionStep3 d).wind = s.wind ∧
      (s.motionStep3 d).can = s.can ∧ (s.motionStep3 d).vehicle = s.vehicle ∧
      (s.motionStep3 d).log = s.log ∧ (s.motionStep3 d).store = s.store ∧
      (s.motionStep3 d).handling = s.handling := by
  unfold State.motionStep3; (try dsimp only); (repeat' split) <;> simp

@[simp] theorem State.motionStep3_lk (d : Device) (s : State) (k : Link) :
    ((s.motionStep3 d).links.get k).live = (s.links.get k).live ∧ ((s.motionStep3 d).links.get k).timer = (s.links.get k).timer ∧
      ((s.motionStep3 d).links.get k).shortTaken = (s.links.get k).shortTaken ∧ ((s.motionStep3 d).links.get k).longTaken = (s.links.get k).longTaken ∧
      ((s.motionStep3 d).links.get k).shortN = (s.links.get k).shortN ∧ ((s.motionStep3 d).links.get k).longN = (s.links.get k).longN ∧
      ((s.motionStep3 d).links.get k).rxQueue = (s.links.get k).rxQueue ∧ ((s.motionStep3 d).links.get k).part = (s.links.get k).part ∧
      ((s.motionStep3 d).links.get k).batch = (s.links.get k).batch ∧ ((s.motionStep3 d).links.get k).snapshot = (s.links.get k).snapshot ∧
      ((s.motionStep3 d).links.get k).mask = (s.links.get k).mask ∧ ((s.motionStep3 d).links.get k).echo = (s.links.get k).echo := by
  unfold State.motionStep3; (try dsimp only); (repeat' split) <;> simp

@[simp] theorem State.motionStep3_uart (d : Device) (s : State) :
    ((s.motionStep3 d).links.get .p).sent = (s.links.get .p).sent ∧
      ((s.motionStep3 d).links.get .t).sent = (s.links.get .t).sent := by
  unfold State.motionStep3; (try dsimp only); (repeat' split) <;> simp

@[simp] theorem State.stallFault_frame (d : Device) (s : State) :
    (s.stallFault d).pending = s.pending ∧ (s.stallFault d).phase = s.phase ∧
      (s.stallFault d).mu = s.mu ∧ (s.stallFault d).prev = s.prev ∧
      (s.stallFault d).acct = s.acct ∧ (s.stallFault d).chg = s.chg ∧
      (s.stallFault d).set = s.set ∧ (s.stallFault d).inForce = s.inForce ∧ (s.stallFault d).test = s.test ∧
      (s.stallFault d).alloc = s.alloc ∧ (s.stallFault d).wind = s.wind ∧
      (s.stallFault d).can = s.can ∧ (s.stallFault d).vehicle = s.vehicle ∧
      (s.stallFault d).store = s.store ∧ (s.stallFault d).handling = s.handling := by
  simp [State.stallFault]

@[simp] theorem State.stallFault_lk (d : Device) (s : State) (k : Link) :
    ((s.stallFault d).links.get k).live = (s.links.get k).live ∧ ((s.stallFault d).links.get k).timer = (s.links.get k).timer ∧
      ((s.stallFault d).links.get k).shortTaken = (s.links.get k).shortTaken ∧ ((s.stallFault d).links.get k).longTaken = (s.links.get k).longTaken ∧
      ((s.stallFault d).links.get k).shortN = (s.links.get k).shortN ∧ ((s.stallFault d).links.get k).longN = (s.links.get k).longN ∧
      ((s.stallFault d).links.get k).rxQueue = (s.links.get k).rxQueue ∧ ((s.stallFault d).links.get k).part = (s.links.get k).part ∧
      ((s.stallFault d).links.get k).batch = (s.links.get k).batch ∧ ((s.stallFault d).links.get k).snapshot = (s.links.get k).snapshot ∧
      ((s.stallFault d).links.get k).mask = (s.links.get k).mask ∧ ((s.stallFault d).links.get k).echo = (s.links.get k).echo := by
  simp [State.stallFault]

@[simp] theorem State.stallFault_uart (d : Device) (s : State) :
    ((s.stallFault d).links.get .p).sent = (s.links.get .p).sent ∧
      ((s.stallFault d).links.get .t).sent = (s.links.get .t).sent := by
  simp [State.stallFault]

@[simp] theorem State.timeoutFault_frame (d : Device) (s : State) :
    (s.timeoutFault d).pending = s.pending ∧ (s.timeoutFault d).phase = s.phase ∧
      (s.timeoutFault d).mu = s.mu ∧ (s.timeoutFault d).prev = s.prev ∧
      (s.timeoutFault d).acct = s.acct ∧ (s.timeoutFault d).chg = s.chg ∧
      (s.timeoutFault d).set = s.set ∧ (s.timeoutFault d).inForce = s.inForce ∧ (s.timeoutFault d).test = s.test ∧
      (s.timeoutFault d).alloc = s.alloc ∧ (s.timeoutFault d).wind = s.wind ∧
      (s.timeoutFault d).can = s.can ∧ (s.timeoutFault d).vehicle = s.vehicle ∧
      (s.timeoutFault d).store = s.store ∧ (s.timeoutFault d).handling = s.handling := by
  simp [State.timeoutFault]

@[simp] theorem State.timeoutFault_lk (d : Device) (s : State) (k : Link) :
    ((s.timeoutFault d).links.get k).live = (s.links.get k).live ∧ ((s.timeoutFault d).links.get k).timer = (s.links.get k).timer ∧
      ((s.timeoutFault d).links.get k).shortTaken = (s.links.get k).shortTaken ∧ ((s.timeoutFault d).links.get k).longTaken = (s.links.get k).longTaken ∧
      ((s.timeoutFault d).links.get k).shortN = (s.links.get k).shortN ∧ ((s.timeoutFault d).links.get k).longN = (s.links.get k).longN ∧
      ((s.timeoutFault d).links.get k).rxQueue = (s.links.get k).rxQueue ∧ ((s.timeoutFault d).links.get k).part = (s.links.get k).part ∧
      ((s.timeoutFault d).links.get k).batch = (s.links.get k).batch ∧ ((s.timeoutFault d).links.get k).snapshot = (s.links.get k).snapshot ∧
      ((s.timeoutFault d).links.get k).mask = (s.links.get k).mask ∧ ((s.timeoutFault d).links.get k).echo = (s.links.get k).echo := by
  simp [State.timeoutFault]

@[simp] theorem State.timeoutFault_uart (d : Device) (s : State) :
    ((s.timeoutFault d).links.get .p).sent = (s.links.get .p).sent ∧
      ((s.timeoutFault d).links.get .t).sent = (s.links.get .t).sent := by
  simp [State.timeoutFault]

@[simp] theorem State.motionFaultEnds_frame (d : Device) (s : State) :
    (s.motionFaultEnds d).pending = s.pending ∧ (s.motionFaultEnds d).phase = s.phase ∧
      (s.motionFaultEnds d).mu = s.mu ∧ (s.motionFaultEnds d).prev = s.prev ∧
      (s.motionFaultEnds d).acct = s.acct ∧ (s.motionFaultEnds d).chg = s.chg ∧
      (s.motionFaultEnds d).set = s.set ∧ (s.motionFaultEnds d).inForce = s.inForce ∧ (s.motionFaultEnds d).test = s.test ∧
      (s.motionFaultEnds d).alloc = s.alloc ∧ (s.motionFaultEnds d).wind = s.wind ∧
      (s.motionFaultEnds d).can = s.can ∧ (s.motionFaultEnds d).vehicle = s.vehicle ∧
      (s.motionFaultEnds d).store = s.store ∧ (s.motionFaultEnds d).handling = s.handling := by
  unfold State.motionFaultEnds; (try dsimp only); (repeat' split) <;> simp

@[simp] theorem State.motionFaultEnds_lk (d : Device) (s : State) (k : Link) :
    ((s.motionFaultEnds d).links.get k).live = (s.links.get k).live ∧ ((s.motionFaultEnds d).links.get k).timer = (s.links.get k).timer ∧
      ((s.motionFaultEnds d).links.get k).shortTaken = (s.links.get k).shortTaken ∧ ((s.motionFaultEnds d).links.get k).longTaken = (s.links.get k).longTaken ∧
      ((s.motionFaultEnds d).links.get k).shortN = (s.links.get k).shortN ∧ ((s.motionFaultEnds d).links.get k).longN = (s.links.get k).longN ∧
      ((s.motionFaultEnds d).links.get k).rxQueue = (s.links.get k).rxQueue ∧ ((s.motionFaultEnds d).links.get k).part = (s.links.get k).part ∧
      ((s.motionFaultEnds d).links.get k).batch = (s.links.get k).batch ∧ ((s.motionFaultEnds d).links.get k).snapshot = (s.links.get k).snapshot ∧
      ((s.motionFaultEnds d).links.get k).mask = (s.links.get k).mask ∧ ((s.motionFaultEnds d).links.get k).echo = (s.links.get k).echo := by
  unfold State.motionFaultEnds; (try dsimp only); (repeat' split) <;> simp

@[simp] theorem State.motionFaultEnds_uart (d : Device) (s : State) :
    ((s.motionFaultEnds d).links.get .p).sent = (s.links.get .p).sent ∧
      ((s.motionFaultEnds d).links.get .t).sent = (s.links.get .t).sent := by
  unfold State.motionFaultEnds; (try dsimp only); (repeat' split) <;> simp

@[simp] theorem State.motionStep4_frame (d : Device) (s : State) :
    (s.motionStep4 d).pending = s.pending ∧ (s.motionStep4 d).phase = s.phase ∧
      (s.motionStep4 d).mu = s.mu ∧ (s.motionStep4 d).prev = s.prev ∧
      (s.motionStep4 d).acct = s.acct ∧ (s.motionStep4 d).chg = s.chg ∧
      (s.motionStep4 d).set = s.set ∧ (s.motionStep4 d).inForce = s.inForce ∧ (s.motionStep4 d).test = s.test ∧
      (s.motionStep4 d).alloc = s.alloc ∧ (s.motionStep4 d).wind = s.wind ∧
      (s.motionStep4 d).can = s.can ∧ (s.motionStep4 d).vehicle = s.vehicle ∧
      (s.motionStep4 d).store = s.store ∧ (s.motionStep4 d).handling = s.handling := by
  unfold State.motionStep4; (try dsimp only); (repeat' split) <;> simp

@[simp] theorem State.motionStep4_lk (d : Device) (s : State) (k : Link) :
    ((s.motionStep4 d).links.get k).live = (s.links.get k).live ∧ ((s.motionStep4 d).links.get k).timer = (s.links.get k).timer ∧
      ((s.motionStep4 d).links.get k).shortTaken = (s.links.get k).shortTaken ∧ ((s.motionStep4 d).links.get k).longTaken = (s.links.get k).longTaken ∧
      ((s.motionStep4 d).links.get k).shortN = (s.links.get k).shortN ∧ ((s.motionStep4 d).links.get k).longN = (s.links.get k).longN ∧
      ((s.motionStep4 d).links.get k).rxQueue = (s.links.get k).rxQueue ∧ ((s.motionStep4 d).links.get k).part = (s.links.get k).part ∧
      ((s.motionStep4 d).links.get k).batch = (s.links.get k).batch ∧ ((s.motionStep4 d).links.get k).snapshot = (s.links.get k).snapshot ∧
      ((s.motionStep4 d).links.get k).mask = (s.links.get k).mask ∧ ((s.motionStep4 d).links.get k).echo = (s.links.get k).echo := by
  unfold State.motionStep4; (try dsimp only); (repeat' split) <;> simp

@[simp] theorem State.motionStep4_uart (d : Device) (s : State) :
    ((s.motionStep4 d).links.get .p).sent = (s.links.get .p).sent ∧
      ((s.motionStep4 d).links.get .t).sent = (s.links.get .t).sent := by
  unfold State.motionStep4; (try dsimp only); (repeat' split) <;> simp

@[simp] theorem State.endPause_frame (d : Device) (p : Pending) (s : State) :
    (s.endPause d p).pending = s.pending ∧ (s.endPause d p).phase = s.phase ∧
      (s.endPause d p).mu = s.mu ∧ (s.endPause d p).prev = s.prev ∧
      (s.endPause d p).acct = s.acct ∧ (s.endPause d p).chg = s.chg ∧
      (s.endPause d p).set = s.set ∧ (s.endPause d p).inForce = s.inForce ∧ (s.endPause d p).test = s.test ∧
      (s.endPause d p).alloc = s.alloc ∧ (s.endPause d p).wind = s.wind ∧
      (s.endPause d p).can = s.can ∧ (s.endPause d p).vehicle = s.vehicle ∧
      (s.endPause d p).log = s.log ∧ (s.endPause d p).store = s.store ∧
      (s.endPause d p).handling = s.handling := by
  unfold State.endPause; (try dsimp only); (repeat' split) <;> simp

@[simp] theorem State.endPause_lk (d : Device) (p : Pending) (s : State) (k : Link) :
    ((s.endPause d p).links.get k).live = (s.links.get k).live ∧ ((s.endPause d p).links.get k).timer = (s.links.get k).timer ∧
      ((s.endPause d p).links.get k).shortTaken = (s.links.get k).shortTaken ∧ ((s.endPause d p).links.get k).longTaken = (s.links.get k).longTaken ∧
      ((s.endPause d p).links.get k).shortN = (s.links.get k).shortN ∧ ((s.endPause d p).links.get k).longN = (s.links.get k).longN ∧
      ((s.endPause d p).links.get k).rxQueue = (s.links.get k).rxQueue ∧ ((s.endPause d p).links.get k).part = (s.links.get k).part ∧
      ((s.endPause d p).links.get k).batch = (s.links.get k).batch ∧ ((s.endPause d p).links.get k).snapshot = (s.links.get k).snapshot ∧
      ((s.endPause d p).links.get k).mask = (s.links.get k).mask ∧ ((s.endPause d p).links.get k).echo = (s.links.get k).echo := by
  unfold State.endPause; (try dsimp only); (repeat' split) <;> simp

@[simp] theorem State.endPause_uart (d : Device) (p : Pending) (s : State) :
    ((s.endPause d p).links.get .p).sent = (s.links.get .p).sent ∧
      ((s.endPause d p).links.get .t).sent = (s.links.get .t).sent := by
  unfold State.endPause; (try dsimp only); (repeat' split) <;> simp

@[simp] theorem State.motionStep5_frame (d : Device) (s : State) :
    (s.motionStep5 d).pending = s.pending ∧ (s.motionStep5 d).phase = s.phase ∧
      (s.motionStep5 d).mu = s.mu ∧ (s.motionStep5 d).prev = s.prev ∧
      (s.motionStep5 d).acct = s.acct ∧ (s.motionStep5 d).chg = s.chg ∧
      (s.motionStep5 d).set = s.set ∧ (s.motionStep5 d).inForce = s.inForce ∧ (s.motionStep5 d).test = s.test ∧
      (s.motionStep5 d).alloc = s.alloc ∧ (s.motionStep5 d).wind = s.wind ∧
      (s.motionStep5 d).can = s.can ∧ (s.motionStep5 d).vehicle = s.vehicle ∧
      (s.motionStep5 d).log = s.log ∧ (s.motionStep5 d).store = s.store ∧
      (s.motionStep5 d).handling = s.handling := by
  unfold State.motionStep5; (try dsimp only); (repeat' split) <;> simp

@[simp] theorem State.motionStep5_lk (d : Device) (s : State) (k : Link) :
    ((s.motionStep5 d).links.get k).live = (s.links.get k).live ∧ ((s.motionStep5 d).links.get k).timer = (s.links.get k).timer ∧
      ((s.motionStep5 d).links.get k).shortTaken = (s.links.get k).shortTaken ∧ ((s.motionStep5 d).links.get k).longTaken = (s.links.get k).longTaken ∧
      ((s.motionStep5 d).links.get k).shortN = (s.links.get k).shortN ∧ ((s.motionStep5 d).links.get k).longN = (s.links.get k).longN ∧
      ((s.motionStep5 d).links.get k).rxQueue = (s.links.get k).rxQueue ∧ ((s.motionStep5 d).links.get k).part = (s.links.get k).part ∧
      ((s.motionStep5 d).links.get k).batch = (s.links.get k).batch ∧ ((s.motionStep5 d).links.get k).snapshot = (s.links.get k).snapshot ∧
      ((s.motionStep5 d).links.get k).mask = (s.links.get k).mask ∧ ((s.motionStep5 d).links.get k).echo = (s.links.get k).echo := by
  unfold State.motionStep5; (try dsimp only); (repeat' split) <;> simp

@[simp] theorem State.motionStep5_uart (d : Device) (s : State) :
    ((s.motionStep5 d).links.get .p).sent = (s.links.get .p).sent ∧
      ((s.motionStep5 d).links.get .t).sent = (s.links.get .t).sent := by
  unfold State.motionStep5; (try dsimp only); (repeat' split) <;> simp

@[simp] theorem State.motionStep6_frame (d : Device) (s : State) :
    (s.motionStep6 d).pending = s.pending ∧ (s.motionStep6 d).phase = s.phase ∧
      (s.motionStep6 d).mu = s.mu ∧ (s.motionStep6 d).prev = s.prev ∧
      (s.motionStep6 d).acct = s.acct ∧ (s.motionStep6 d).chg = s.chg ∧
      (s.motionStep6 d).set = s.set ∧ (s.motionStep6 d).inForce = s.inForce ∧ (s.motionStep6 d).test = s.test ∧
      (s.motionStep6 d).alloc = s.alloc ∧ (s.motionStep6 d).wind = s.wind ∧
      (s.motionStep6 d).can = s.can ∧ (s.motionStep6 d).vehicle = s.vehicle ∧
      (s.motionStep6 d).store = s.store ∧ (s.motionStep6 d).handling = s.handling := by
  unfold State.motionStep6; (try dsimp only); (repeat' split) <;> simp

@[simp] theorem State.motionStep6_lk (d : Device) (s : State) (k : Link) :
    ((s.motionStep6 d).links.get k).live = (s.links.get k).live ∧ ((s.motionStep6 d).links.get k).timer = (s.links.get k).timer ∧
      ((s.motionStep6 d).links.get k).shortTaken = (s.links.get k).shortTaken ∧ ((s.motionStep6 d).links.get k).longTaken = (s.links.get k).longTaken ∧
      ((s.motionStep6 d).links.get k).shortN = (s.links.get k).shortN ∧ ((s.motionStep6 d).links.get k).longN = (s.links.get k).longN ∧
      ((s.motionStep6 d).links.get k).rxQueue = (s.links.get k).rxQueue ∧ ((s.motionStep6 d).links.get k).part = (s.links.get k).part ∧
      ((s.motionStep6 d).links.get k).batch = (s.links.get k).batch ∧ ((s.motionStep6 d).links.get k).snapshot = (s.links.get k).snapshot ∧
      ((s.motionStep6 d).links.get k).mask = (s.links.get k).mask ∧ ((s.motionStep6 d).links.get k).echo = (s.links.get k).echo := by
  unfold State.motionStep6; (try dsimp only); (repeat' split) <;> simp

@[simp] theorem State.motionStep6_uart (d : Device) (s : State) :
    ((s.motionStep6 d).links.get .p).sent = (s.links.get .p).sent ∧
      ((s.motionStep6 d).links.get .t).sent = (s.links.get .t).sent := by
  unfold State.motionStep6; (try dsimp only); (repeat' split) <;> simp

@[simp] theorem State.motionSweep_frame (d : Device) (s : State) :
    (s.motionSweep d).pending = s.pending ∧ (s.motionSweep d).phase = s.phase ∧
      (s.motionSweep d).mu = s.mu ∧ (s.motionSweep d).prev = s.prev ∧
      (s.motionSweep d).acct = s.acct ∧ (s.motionSweep d).chg = s.chg ∧
      (s.motionSweep d).set = s.set ∧ (s.motionSweep d).inForce = s.inForce ∧ (s.motionSweep d).test = s.test ∧
      (s.motionSweep d).alloc = s.alloc ∧ (s.motionSweep d).wind = s.wind ∧
      (s.motionSweep d).can = s.can ∧ (s.motionSweep d).vehicle = s.vehicle ∧
      (s.motionSweep d).store = s.store ∧ (s.motionSweep d).handling = s.handling := by
  unfold State.motionSweep; (try dsimp only); (repeat' split) <;> simp

@[simp] theorem State.motionSweep_lk (d : Device) (s : State) (k : Link) :
    ((s.motionSweep d).links.get k).live = (s.links.get k).live ∧ ((s.motionSweep d).links.get k).timer = (s.links.get k).timer ∧
      ((s.motionSweep d).links.get k).shortTaken = (s.links.get k).shortTaken ∧ ((s.motionSweep d).links.get k).longTaken = (s.links.get k).longTaken ∧
      ((s.motionSweep d).links.get k).shortN = (s.links.get k).shortN ∧ ((s.motionSweep d).links.get k).longN = (s.links.get k).longN ∧
      ((s.motionSweep d).links.get k).rxQueue = (s.links.get k).rxQueue ∧ ((s.motionSweep d).links.get k).part = (s.links.get k).part ∧
      ((s.motionSweep d).links.get k).batch = (s.links.get k).batch ∧ ((s.motionSweep d).links.get k).snapshot = (s.links.get k).snapshot ∧
      ((s.motionSweep d).links.get k).mask = (s.links.get k).mask ∧ ((s.motionSweep d).links.get k).echo = (s.links.get k).echo := by
  unfold State.motionSweep; (try dsimp only); (repeat' split) <;> simp

@[simp] theorem State.motionSweep_uart (d : Device) (s : State) :
    ((s.motionSweep d).links.get .p).sent = (s.links.get .p).sent ∧
      ((s.motionSweep d).links.get .t).sent = (s.links.get .t).sent := by
  unfold State.motionSweep; (try dsimp only); (repeat' split) <;> simp

@[simp] theorem State.motionReset_frame (d : Device) (s : State) :
    (s.motionReset d).pending = s.pending ∧ (s.motionReset d).phase = s.phase ∧
      (s.motionReset d).mu = s.mu ∧ (s.motionReset d).prev = s.prev ∧
      (s.motionReset d).acct = s.acct ∧ (s.motionReset d).chg = s.chg ∧
      (s.motionReset d).set = s.set ∧ (s.motionReset d).inForce = s.inForce ∧ (s.motionReset d).test = s.test ∧
      (s.motionReset d).alloc = s.alloc ∧ (s.motionReset d).wind = s.wind ∧
      (s.motionReset d).can = s.can ∧ (s.motionReset d).vehicle = s.vehicle ∧
      (s.motionReset d).log = s.log ∧ (s.motionReset d).store = s.store ∧
      (s.motionReset d).handling = s.handling := by
  simp [State.motionReset]

@[simp] theorem State.motionReset_lk (d : Device) (s : State) (k : Link) :
    ((s.motionReset d).links.get k).live = (s.links.get k).live ∧ ((s.motionReset d).links.get k).timer = (s.links.get k).timer ∧
      ((s.motionReset d).links.get k).shortTaken = (s.links.get k).shortTaken ∧ ((s.motionReset d).links.get k).longTaken = (s.links.get k).longTaken ∧
      ((s.motionReset d).links.get k).shortN = (s.links.get k).shortN ∧ ((s.motionReset d).links.get k).longN = (s.links.get k).longN ∧
      ((s.motionReset d).links.get k).rxQueue = (s.links.get k).rxQueue ∧ ((s.motionReset d).links.get k).part = (s.links.get k).part ∧
      ((s.motionReset d).links.get k).batch = (s.links.get k).batch ∧ ((s.motionReset d).links.get k).snapshot = (s.links.get k).snapshot ∧
      ((s.motionReset d).links.get k).mask = (s.links.get k).mask ∧ ((s.motionReset d).links.get k).echo = (s.links.get k).echo := by
  simp [State.motionReset]

@[simp] theorem State.motionReset_uart (d : Device) (s : State) :
    ((s.motionReset d).links.get .p).sent = (s.links.get .p).sent ∧
      ((s.motionReset d).links.get .t).sent = (s.links.get .t).sent := by
  simp [State.motionReset]

@[simp] theorem State.windStowAwning_frame  (s : State) :
    (s.windStowAwning).pending = s.pending ∧ (s.windStowAwning).phase = s.phase ∧
      (s.windStowAwning).mu = s.mu ∧ (s.windStowAwning).prev = s.prev ∧
      (s.windStowAwning).acct = s.acct ∧ (s.windStowAwning).chg = s.chg ∧
      (s.windStowAwning).set = s.set ∧ (s.windStowAwning).inForce = s.inForce ∧ (s.windStowAwning).test = s.test ∧
      (s.windStowAwning).alloc = s.alloc ∧ (s.windStowAwning).wind = s.wind ∧
      (s.windStowAwning).can = s.can ∧ (s.windStowAwning).vehicle = s.vehicle ∧
      (s.windStowAwning).store = s.store ∧ (s.windStowAwning).handling = s.handling := by
  unfold State.windStowAwning; (try dsimp only); (repeat' split) <;> simp

@[simp] theorem State.windStowAwning_lk  (s : State) (k : Link) :
    ((s.windStowAwning).links.get k).live = (s.links.get k).live ∧ ((s.windStowAwning).links.get k).timer = (s.links.get k).timer ∧
      ((s.windStowAwning).links.get k).shortTaken = (s.links.get k).shortTaken ∧ ((s.windStowAwning).links.get k).longTaken = (s.links.get k).longTaken ∧
      ((s.windStowAwning).links.get k).shortN = (s.links.get k).shortN ∧ ((s.windStowAwning).links.get k).longN = (s.links.get k).longN ∧
      ((s.windStowAwning).links.get k).rxQueue = (s.links.get k).rxQueue ∧ ((s.windStowAwning).links.get k).part = (s.links.get k).part ∧
      ((s.windStowAwning).links.get k).batch = (s.links.get k).batch ∧ ((s.windStowAwning).links.get k).snapshot = (s.links.get k).snapshot ∧
      ((s.windStowAwning).links.get k).mask = (s.links.get k).mask ∧ ((s.windStowAwning).links.get k).echo = (s.links.get k).echo := by
  unfold State.windStowAwning; (try dsimp only); (repeat' split) <;> simp

@[simp] theorem State.windStowAwning_uart  (s : State) :
    ((s.windStowAwning).links.get .p).sent = (s.links.get .p).sent ∧
      ((s.windStowAwning).links.get .t).sent = (s.links.get .t).sent := by
  unfold State.windStowAwning; (try dsimp only); (repeat' split) <;> simp

@[simp] theorem State.windReached_frame  (s : State) :
    (s.windReached).pending = s.pending ∧ (s.windReached).phase = s.phase ∧
      (s.windReached).mu = s.mu ∧ (s.windReached).prev = s.prev ∧
      (s.windReached).acct = s.acct ∧ (s.windReached).chg = s.chg ∧
      (s.windReached).set = s.set ∧ (s.windReached).inForce = s.inForce ∧ (s.windReached).test = s.test ∧
      (s.windReached).alloc = s.alloc ∧ (s.windReached).can = s.can ∧
      (s.windReached).vehicle = s.vehicle ∧ (s.windReached).store = s.store ∧
      (s.windReached).handling = s.handling := by
  simp [State.windReached]

@[simp] theorem State.windReached_lk  (s : State) (k : Link) :
    ((s.windReached).links.get k).live = (s.links.get k).live ∧ ((s.windReached).links.get k).timer = (s.links.get k).timer ∧
      ((s.windReached).links.get k).shortTaken = (s.links.get k).shortTaken ∧ ((s.windReached).links.get k).longTaken = (s.links.get k).longTaken ∧
      ((s.windReached).links.get k).shortN = (s.links.get k).shortN ∧ ((s.windReached).links.get k).longN = (s.links.get k).longN ∧
      ((s.windReached).links.get k).rxQueue = (s.links.get k).rxQueue ∧ ((s.windReached).links.get k).part = (s.links.get k).part ∧
      ((s.windReached).links.get k).batch = (s.links.get k).batch ∧ ((s.windReached).links.get k).snapshot = (s.links.get k).snapshot ∧
      ((s.windReached).links.get k).mask = (s.links.get k).mask ∧ ((s.windReached).links.get k).echo = (s.links.get k).echo := by
  simp [State.windReached]

@[simp] theorem State.windReached_uart  (s : State) :
    ((s.windReached).links.get .p).sent = (s.links.get .p).sent ∧
      ((s.windReached).links.get .t).sent = (s.links.get .t).sent := by
  simp [State.windReached]

@[simp] theorem State.windWindow_frame (n : Nat) (s : State) :
    (s.windWindow n).pending = s.pending ∧ (s.windWindow n).phase = s.phase ∧
      (s.windWindow n).mu = s.mu ∧ (s.windWindow n).prev = s.prev ∧
      (s.windWindow n).acct = s.acct ∧ (s.windWindow n).chg = s.chg ∧
      (s.windWindow n).set = s.set ∧ (s.windWindow n).inForce = s.inForce ∧ (s.windWindow n).test = s.test ∧
      (s.windWindow n).alloc = s.alloc ∧ (s.windWindow n).can = s.can ∧
      (s.windWindow n).vehicle = s.vehicle ∧ (s.windWindow n).store = s.store ∧
      (s.windWindow n).handling = s.handling := by
  unfold State.windWindow; (try dsimp only); (repeat' split) <;> simp

@[simp] theorem State.windWindow_lk (n : Nat) (s : State) (k : Link) :
    ((s.windWindow n).links.get k).live = (s.links.get k).live ∧ ((s.windWindow n).links.get k).timer = (s.links.get k).timer ∧
      ((s.windWindow n).links.get k).shortTaken = (s.links.get k).shortTaken ∧ ((s.windWindow n).links.get k).longTaken = (s.links.get k).longTaken ∧
      ((s.windWindow n).links.get k).shortN = (s.links.get k).shortN ∧ ((s.windWindow n).links.get k).longN = (s.links.get k).longN ∧
      ((s.windWindow n).links.get k).rxQueue = (s.links.get k).rxQueue ∧ ((s.windWindow n).links.get k).part = (s.links.get k).part ∧
      ((s.windWindow n).links.get k).batch = (s.links.get k).batch ∧ ((s.windWindow n).links.get k).snapshot = (s.links.get k).snapshot ∧
      ((s.windWindow n).links.get k).mask = (s.links.get k).mask ∧ ((s.windWindow n).links.get k).echo = (s.links.get k).echo := by
  unfold State.windWindow; (try dsimp only); (repeat' split) <;> simp

@[simp] theorem State.windWindow_uart (n : Nat) (s : State) :
    ((s.windWindow n).links.get .p).sent = (s.links.get .p).sent ∧
      ((s.windWindow n).links.get .t).sent = (s.links.get .t).sent := by
  unfold State.windWindow; (try dsimp only); (repeat' split) <;> simp

end Sys2Proof.Machine
end

