-- ==== Sys2Proof/Laws/Energy.lean ====
section
/-!
SUPPORT. What the operations of channel protection, the energy account and charge control leave unchanged.
-/

namespace Sys2Proof.Machine

/-! ### Channel protection -/

@[simp] theorem State.warmerTrip_frame  (s : State) :
    (s.warmerTrip).pending = s.pending ∧ (s.warmerTrip).phase = s.phase ∧
      (s.warmerTrip).mu = s.mu ∧ (s.warmerTrip).prev = s.prev ∧
      (s.warmerTrip).acct = s.acct ∧ (s.warmerTrip).set = s.set ∧ (s.warmerTrip).inForce = s.inForce ∧
      (s.warmerTrip).test = s.test ∧ (s.warmerTrip).reg = s.reg ∧
      (s.warmerTrip).alloc = s.alloc ∧ (s.warmerTrip).clim = s.clim ∧
      (s.warmerTrip).water = s.water ∧ (s.warmerTrip).mot = s.mot ∧
      (s.warmerTrip).wind = s.wind ∧ (s.warmerTrip).light = s.light ∧
      (s.warmerTrip).links = s.links ∧ (s.warmerTrip).can = s.can ∧
      (s.warmerTrip).vehicle = s.vehicle ∧ (s.warmerTrip).log = s.log ∧
      (s.warmerTrip).store = s.store ∧ (s.warmerTrip).handling = s.handling := by
  simp [State.warmerTrip]

@[simp] theorem State.reportTrip_frame (r : RecNo) (s : State) :
    (s.reportTrip r).pending = s.pending ∧ (s.reportTrip r).phase = s.phase ∧
      (s.reportTrip r).mu = s.mu ∧ (s.reportTrip r).prev = s.prev ∧
      (s.reportTrip r).acct = s.acct ∧ (s.reportTrip r).set = s.set ∧ (s.reportTrip r).inForce = s.inForce ∧
      (s.reportTrip r).test = s.test ∧ (s.reportTrip r).reg = s.reg ∧
      (s.reportTrip r).alloc = s.alloc ∧ (s.reportTrip r).mot = s.mot ∧
      (s.reportTrip r).wind = s.wind ∧ (s.reportTrip r).light = s.light ∧
      (s.reportTrip r).can = s.can ∧ (s.reportTrip r).vehicle = s.vehicle ∧
      (s.reportTrip r).store = s.store ∧ (s.reportTrip r).handling = s.handling := by
  unfold State.reportTrip; (try dsimp only); (repeat' split) <;> simp

@[simp] theorem State.reportTrip_lk (r : RecNo) (s : State) (k : Link) :
    ((s.reportTrip r).links.get k).live = (s.links.get k).live ∧ ((s.reportTrip r).links.get k).timer = (s.links.get k).timer ∧
      ((s.reportTrip r).links.get k).shortTaken = (s.links.get k).shortTaken ∧ ((s.reportTrip r).links.get k).longTaken = (s.links.get k).longTaken ∧
      ((s.reportTrip r).links.get k).shortN = (s.links.get k).shortN ∧ ((s.reportTrip r).links.get k).longN = (s.links.get k).longN ∧
      ((s.reportTrip r).links.get k).rxQueue = (s.links.get k).rxQueue ∧ ((s.reportTrip r).links.get k).part = (s.links.get k).part ∧
      ((s.reportTrip r).links.get k).batch = (s.links.get k).batch ∧ ((s.reportTrip r).links.get k).snapshot = (s.links.get k).snapshot ∧
      ((s.reportTrip r).links.get k).mask = (s.links.get k).mask ∧ ((s.reportTrip r).links.get k).echo = (s.links.get k).echo := by
  unfold State.reportTrip; (try dsimp only); (repeat' split) <;> simp

@[simp] theorem State.reportTrip_uart (r : RecNo) (s : State) :
    ((s.reportTrip r).links.get .p).sent = (s.links.get .p).sent ∧
      ((s.reportTrip r).links.get .t).sent = (s.links.get .t).sent := by
  unfold State.reportTrip; (try dsimp only); (repeat' split) <;> simp

@[simp] theorem State.tripPolicy_frame (r : RecNo) (s : State) :
    (s.tripPolicy r).pending = s.pending ∧ (s.tripPolicy r).phase = s.phase ∧
      (s.tripPolicy r).mu = s.mu ∧ (s.tripPolicy r).prev = s.prev ∧
      (s.tripPolicy r).acct = s.acct ∧ (s.tripPolicy r).chg = s.chg ∧
      (s.tripPolicy r).set = s.set ∧ (s.tripPolicy r).inForce = s.inForce ∧ (s.tripPolicy r).reg = s.reg ∧
      (s.tripPolicy r).alloc = s.alloc ∧ (s.tripPolicy r).clim = s.clim ∧
      (s.tripPolicy r).water = s.water ∧ (s.tripPolicy r).wind = s.wind ∧
      (s.tripPolicy r).can = s.can ∧ (s.tripPolicy r).vehicle = s.vehicle ∧
      (s.tripPolicy r).store = s.store ∧ (s.tripPolicy r).handling = s.handling := by
  unfold State.tripPolicy; (try dsimp only); (repeat' split) <;> simp

@[simp] theorem State.tripPolicy_lk (r : RecNo) (s : State) (k : Link) :
    ((s.tripPolicy r).links.get k).live = (s.links.get k).live ∧ ((s.tripPolicy r).links.get k).timer = (s.links.get k).timer ∧
      ((s.tripPolicy r).links.get k).shortTaken = (s.links.get k).shortTaken ∧ ((s.tripPolicy r).links.get k).longTaken = (s.links.get k).longTaken ∧
      ((s.tripPolicy r).links.get k).shortN = (s.links.get k).shortN ∧ ((s.tripPolicy r).links.get k).longN = (s.links.get k).longN ∧
      ((s.tripPolicy r).links.get k).rxQueue = (s.links.get k).rxQueue ∧ ((s.tripPolicy r).links.get k).part = (s.links.get k).part ∧
      ((s.tripPolicy r).links.get k).batch = (s.links.get k).batch ∧ ((s.tripPolicy r).links.get k).snapshot = (s.links.get k).snapshot ∧
      ((s.tripPolicy r).links.get k).mask = (s.links.get k).mask ∧ ((s.tripPolicy r).links.get k).echo = (s.links.get k).echo := by
  unfold State.tripPolicy; (try dsimp only); (repeat' split) <;> simp

@[simp] theorem State.tripPolicy_uart (r : RecNo) (s : State) :
    ((s.tripPolicy r).links.get .p).sent = (s.links.get .p).sent ∧
      ((s.tripPolicy r).links.get .t).sent = (s.links.get .t).sent := by
  unfold State.tripPolicy; (try dsimp only); (repeat' split) <;> simp

@[simp] theorem State.trip_frame (r : RecNo) (c : TripCause) (s : State) :
    (s.trip r c).pending = s.pending ∧ (s.trip r c).phase = s.phase ∧
      (s.trip r c).mu = s.mu ∧ (s.trip r c).prev = s.prev ∧
      (s.trip r c).acct = s.acct ∧ (s.trip r c).set = s.set ∧ (s.trip r c).inForce = s.inForce ∧
      (s.trip r c).reg = s.reg ∧ (s.trip r c).alloc = s.alloc ∧
      (s.trip r c).wind = s.wind ∧ (s.trip r c).can = s.can ∧
      (s.trip r c).vehicle = s.vehicle ∧ (s.trip r c).store = s.store ∧
      (s.trip r c).handling = s.handling := by
  simp [State.trip]

@[simp] theorem State.trip_lk (r : RecNo) (c : TripCause) (s : State) (k : Link) :
    ((s.trip r c).links.get k).live = (s.links.get k).live ∧ ((s.trip r c).links.get k).timer = (s.links.get k).timer ∧
      ((s.trip r c).links.get k).shortTaken = (s.links.get k).shortTaken ∧ ((s.trip r c).links.get k).longTaken = (s.links.get k).longTaken ∧
      ((s.trip r c).links.get k).shortN = (s.links.get k).shortN ∧ ((s.trip r c).links.get k).longN = (s.links.get k).longN ∧
      ((s.trip r c).links.get k).rxQueue = (s.links.get k).rxQueue ∧ ((s.trip r c).links.get k).part = (s.links.get k).part ∧
      ((s.trip r c).links.get k).batch = (s.links.get k).batch ∧ ((s.trip r c).links.get k).snapshot = (s.links.get k).snapshot ∧
      ((s.trip r c).links.get k).mask = (s.links.get k).mask ∧ ((s.trip r c).links.get k).echo = (s.links.get k).echo := by
  simp [State.trip]

@[simp] theorem State.trip_uart (r : RecNo) (c : TripCause) (s : State) :
    ((s.trip r c).links.get .p).sent = (s.links.get .p).sent ∧
      ((s.trip r c).links.get .t).sent = (s.links.get .t).sent := by
  simp [State.trip]

@[simp] theorem State.bucketSweep_frame (r : RecNo) (m : Nat) (s : State) :
    (s.bucketSweep r m).pending = s.pending ∧ (s.bucketSweep r m).phase = s.phase ∧
      (s.bucketSweep r m).mu = s.mu ∧ (s.bucketSweep r m).prev = s.prev ∧
      (s.bucketSweep r m).acct = s.acct ∧ (s.bucketSweep r m).set = s.set ∧ (s.bucketSweep r m).inForce = s.inForce ∧
      (s.bucketSweep r m).reg = s.reg ∧ (s.bucketSweep r m).alloc = s.alloc ∧
      (s.bucketSweep r m).wind = s.wind ∧ (s.bucketSweep r m).can = s.can ∧
      (s.bucketSweep r m).vehicle = s.vehicle ∧ (s.bucketSweep r m).store = s.store ∧
      (s.bucketSweep r m).handling = s.handling := by
  unfold State.bucketSweep; (try dsimp only); (repeat' split) <;> simp

@[simp] theorem State.bucketSweep_lk (r : RecNo) (m : Nat) (s : State) (k : Link) :
    ((s.bucketSweep r m).links.get k).live = (s.links.get k).live ∧ ((s.bucketSweep r m).links.get k).timer = (s.links.get k).timer ∧
      ((s.bucketSweep r m).links.get k).shortTaken = (s.links.get k).shortTaken ∧ ((s.bucketSweep r m).links.get k).longTaken = (s.links.get k).longTaken ∧
      ((s.bucketSweep r m).links.get k).shortN = (s.links.get k).shortN ∧ ((s.bucketSweep r m).links.get k).longN = (s.links.get k).longN ∧
      ((s.bucketSweep r m).links.get k).rxQueue = (s.links.get k).rxQueue ∧ ((s.bucketSweep r m).links.get k).part = (s.links.get k).part ∧
      ((s.bucketSweep r m).links.get k).batch = (s.links.get k).batch ∧ ((s.bucketSweep r m).links.get k).snapshot = (s.links.get k).snapshot ∧
      ((s.bucketSweep r m).links.get k).mask = (s.links.get k).mask ∧ ((s.bucketSweep r m).links.get k).echo = (s.links.get k).echo := by
  unfold State.bucketSweep; (try dsimp only); (repeat' split) <;> simp

@[simp] theorem State.bucketSweep_uart (r : RecNo) (m : Nat) (s : State) :
    ((s.bucketSweep r m).links.get .p).sent = (s.links.get .p).sent ∧
      ((s.bucketSweep r m).links.get .t).sent = (s.links.get .t).sent := by
  unfold State.bucketSweep; (try dsimp only); (repeat' split) <;> simp

@[simp] theorem State.retryDone_frame (r : RecNo) (s : State) :
    (s.retryDone r).pending = s.pending ∧ (s.retryDone r).phase = s.phase ∧
      (s.retryDone r).mu = s.mu ∧ (s.retryDone r).prev = s.prev ∧
      (s.retryDone r).acct = s.acct ∧ (s.retryDone r).chg = s.chg ∧
      (s.retryDone r).set = s.set ∧ (s.retryDone r).inForce = s.inForce ∧ (s.retryDone r).reg = s.reg ∧
      (s.retryDone r).alloc = s.alloc ∧ (s.retryDone r).clim = s.clim ∧
      (s.retryDone r).water = s.water ∧ (s.retryDone r).wind = s.wind ∧
      (s.retryDone r).can = s.can ∧ (s.retryDone r).vehicle = s.vehicle ∧
      (s.retryDone r).store = s.store ∧ (s.retryDone r).handling = s.handling := by
  simp [State.retryDone]

@[simp] theorem State.retryDone_lk (r : RecNo) (s : State) (k : Link) :
    ((s.retryDone r).links.get k).live = (s.links.get k).live ∧ ((s.retryDone r).links.get k).timer = (s.links.get k).timer ∧
      ((s.retryDone r).links.get k).shortTaken = (s.links.get k).shortTaken ∧ ((s.retryDone r).links.get k).longTaken = (s.links.get k).longTaken ∧
      ((s.retryDone r).links.get k).shortN = (s.links.get k).shortN ∧ ((s.retryDone r).links.get k).longN = (s.links.get k).longN ∧
      ((s.retryDone r).links.get k).rxQueue = (s.links.get k).rxQueue ∧ ((s.retryDone r).links.get k).part = (s.links.get k).part ∧
      ((s.retryDone r).links.get k).batch = (s.links.get k).batch ∧ ((s.retryDone r).links.get k).snapshot = (s.links.get k).snapshot ∧
      ((s.retryDone r).links.get k).mask = (s.links.get k).mask ∧ ((s.retryDone r).links.get k).echo = (s.links.get k).echo := by
  simp [State.retryDone]

@[simp] theorem State.retryDone_uart (r : RecNo) (s : State) :
    ((s.retryDone r).links.get .p).sent = (s.links.get .p).sent ∧
      ((s.retryDone r).links.get .t).sent = (s.links.get .t).sent := by
  simp [State.retryDone]

@[simp] theorem State.channelSweep_frame (r : RecNo) (s : State) :
    (s.channelSweep r).pending = s.pending ∧ (s.channelSweep r).phase = s.phase ∧
      (s.channelSweep r).mu = s.mu ∧ (s.channelSweep r).prev = s.prev ∧
      (s.channelSweep r).acct = s.acct ∧ (s.channelSweep r).set = s.set ∧ (s.channelSweep r).inForce = s.inForce ∧
      (s.channelSweep r).reg = s.reg ∧ (s.channelSweep r).alloc = s.alloc ∧
      (s.channelSweep r).wind = s.wind ∧ (s.channelSweep r).can = s.can ∧
      (s.channelSweep r).vehicle = s.vehicle ∧ (s.channelSweep r).store = s.store ∧
      (s.channelSweep r).handling = s.handling := by
  unfold State.channelSweep; (try dsimp only); (repeat' split) <;> simp

@[simp] theorem State.channelSweep_lk (r : RecNo) (s : State) (k : Link) :
    ((s.channelSweep r).links.get k).live = (s.links.get k).live ∧ ((s.channelSweep r).links.get k).timer = (s.links.get k).timer ∧
      ((s.channelSweep r).links.get k).shortTaken = (s.links.get k).shortTaken ∧ ((s.channelSweep r).links.get k).longTaken = (s.links.get k).longTaken ∧
      ((s.channelSweep r).links.get k).shortN = (s.links.get k).shortN ∧ ((s.channelSweep r).links.get k).longN = (s.links.get k).longN ∧
      ((s.channelSweep r).links.get k).rxQueue = (s.links.get k).rxQueue ∧ ((s.channelSweep r).links.get k).part = (s.links.get k).part ∧
      ((s.channelSweep r).links.get k).batch = (s.links.get k).batch ∧ ((s.channelSweep r).links.get k).snapshot = (s.links.get k).snapshot ∧
      ((s.channelSweep r).links.get k).mask = (s.links.get k).mask ∧ ((s.channelSweep r).links.get k).echo = (s.links.get k).echo := by
  unfold State.channelSweep; (try dsimp only); (repeat' split) <;> simp

@[simp] theorem State.channelSweep_uart (r : RecNo) (s : State) :
    ((s.channelSweep r).links.get .p).sent = (s.links.get .p).sent ∧
      ((s.channelSweep r).links.get .t).sent = (s.links.get .t).sent := by
  unfold State.channelSweep; (try dsimp only); (repeat' split) <;> simp

theorem channelRecs_kind : ∀ r ∈ channelRecs, recKind r ≠ .motor := by decide

@[simp] theorem State.channelsSweep_frame  (s : State) :
    (channelRecs.foldl (fun (t : State) r => t.channelSweep r) s).pending = s.pending ∧ (channelRecs.foldl (fun (t : State) r => t.channelSweep r) s).phase = s.phase ∧
      (channelRecs.foldl (fun (t : State) r => t.channelSweep r) s).mu = s.mu ∧ (channelRecs.foldl (fun (t : State) r => t.channelSweep r) s).prev = s.prev ∧
      (channelRecs.foldl (fun (t : State) r => t.channelSweep r) s).acct = s.acct ∧ (channelRecs.foldl (fun (t : State) r => t.channelSweep r) s).set = s.set ∧ (channelRecs.foldl (fun (t : State) r => t.channelSweep r) s).inForce = s.inForce ∧
      (channelRecs.foldl (fun (t : State) r => t.channelSweep r) s).reg = s.reg ∧ (channelRecs.foldl (fun (t : State) r => t.channelSweep r) s).alloc = s.alloc ∧
      (channelRecs.foldl (fun (t : State) r => t.channelSweep r) s).wind = s.wind ∧ (channelRecs.foldl (fun (t : State) r => t.channelSweep r) s).can = s.can ∧
      (channelRecs.foldl (fun (t : State) r => t.channelSweep r) s).vehicle = s.vehicle ∧ (channelRecs.foldl (fun (t : State) r => t.channelSweep r) s).store = s.store ∧
      (channelRecs.foldl (fun (t : State) r => t.channelSweep r) s).handling = s.handling := by
  exact ⟨foldl_keeps (State.pending) _ (fun _ _ => by simp) _ _,
    foldl_keeps (State.phase) _ (fun _ _ => by simp) _ _,
    foldl_keeps (State.mu) _ (fun _ _ => by simp) _ _,
    foldl_keeps (State.prev) _ (fun _ _ => by simp) _ _,
    foldl_keeps (State.acct) _ (fun _ _ => by simp) _ _,
    foldl_keeps (State.set) _ (fun _ _ => by simp) _ _,
    foldl_keeps (State.inForce) _ (fun _ _ => by simp) _ _,
    foldl_keeps (State.reg) _ (fun _ _ => by simp) _ _,
    foldl_keeps (State.alloc) _ (fun _ _ => by simp) _ _,
    foldl_keeps (State.wind) _ (fun _ _ => by simp) _ _,
    foldl_keeps (State.can) _ (fun _ _ => by simp) _ _,
    foldl_keeps (State.vehicle) _ (fun _ _ => by simp) _ _,
    foldl_keeps (State.store) _ (fun _ _ => by simp) _ _,
    foldl_keeps (State.handling) _ (fun _ _ => by simp) _ _⟩

@[simp] theorem State.channelsSweep_lk  (s : State) (k : Link) :
    ((channelRecs.foldl (fun (t : State) r => t.channelSweep r) s).links.get k).live = (s.links.get k).live ∧ ((channelRecs.foldl (fun (t : State) r => t.channelSweep r) s).links.get k).timer = (s.links.get k).timer ∧
      ((channelRecs.foldl (fun (t : State) r => t.channelSweep r) s).links.get k).shortTaken = (s.links.get k).shortTaken ∧ ((channelRecs.foldl (fun (t : State) r => t.channelSweep r) s).links.get k).longTaken = (s.links.get k).longTaken ∧
      ((channelRecs.foldl (fun (t : State) r => t.channelSweep r) s).links.get k).shortN = (s.links.get k).shortN ∧ ((channelRecs.foldl (fun (t : State) r => t.channelSweep r) s).links.get k).longN = (s.links.get k).longN ∧
      ((channelRecs.foldl (fun (t : State) r => t.channelSweep r) s).links.get k).rxQueue = (s.links.get k).rxQueue ∧ ((channelRecs.foldl (fun (t : State) r => t.channelSweep r) s).links.get k).part = (s.links.get k).part ∧
      ((channelRecs.foldl (fun (t : State) r => t.channelSweep r) s).links.get k).batch = (s.links.get k).batch ∧ ((channelRecs.foldl (fun (t : State) r => t.channelSweep r) s).links.get k).snapshot = (s.links.get k).snapshot ∧
      ((channelRecs.foldl (fun (t : State) r => t.channelSweep r) s).links.get k).mask = (s.links.get k).mask ∧ ((channelRecs.foldl (fun (t : State) r => t.channelSweep r) s).links.get k).echo = (s.links.get k).echo := by
  exact ⟨foldl_keeps (fun u : State => (u.links.get k).live) _ (fun _ _ => by simp) _ _,
    foldl_keeps (fun u : State => (u.links.get k).timer) _ (fun _ _ => by simp) _ _,
    foldl_keeps (fun u : State => (u.links.get k).shortTaken) _ (fun _ _ => by simp) _ _,
    foldl_keeps (fun u : State => (u.links.get k).longTaken) _ (fun _ _ => by simp) _ _,
    foldl_keeps (fun u : State => (u.links.get k).shortN) _ (fun _ _ => by simp) _ _,
    foldl_keeps (fun u : State => (u.links.get k).longN) _ (fun _ _ => by simp) _ _,
    foldl_keeps (fun u : State => (u.links.get k).rxQueue) _ (fun _ _ => by simp) _ _,
    foldl_keeps (fun u : State => (u.links.get k).part) _ (fun _ _ => by simp) _ _,
    foldl_keeps (fun u : State => (u.links.get k).batch) _ (fun _ _ => by simp) _ _,
    foldl_keeps (fun u : State => (u.links.get k).snapshot) _ (fun _ _ => by simp) _ _,
    foldl_keeps (fun u : State => (u.links.get k).mask) _ (fun _ _ => by simp) _ _,
    foldl_keeps (fun u : State => (u.links.get k).echo) _ (fun _ _ => by simp) _ _⟩

@[simp] theorem State.channelsSweep_uart  (s : State) :
    ((channelRecs.foldl (fun (t : State) r => t.channelSweep r) s).links.get .p).sent = (s.links.get .p).sent ∧
      ((channelRecs.foldl (fun (t : State) r => t.channelSweep r) s).links.get .t).sent = (s.links.get .t).sent := by
  exact ⟨foldl_keeps (fun u : State => (u.links.get .p).sent) _ (fun _ _ => by simp) _ _,
    foldl_keeps (fun u : State => (u.links.get .t).sent) _ (fun _ _ => by simp) _ _⟩

@[simp] theorem State.protectionSweep_frame  (s : State) :
    (s.protectionSweep).pending = s.pending ∧ (s.protectionSweep).phase = s.phase ∧
      (s.protectionSweep).mu = s.mu ∧ (s.protectionSweep).prev = s.prev ∧
      (s.protectionSweep).acct = s.acct ∧ (s.protectionSweep).set = s.set ∧ (s.protectionSweep).inForce = s.inForce ∧
      (s.protectionSweep).reg = s.reg ∧ (s.protectionSweep).alloc = s.alloc ∧
      (s.protectionSweep).wind = s.wind ∧ (s.protectionSweep).can = s.can ∧
      (s.protectionSweep).vehicle = s.vehicle ∧ (s.protectionSweep).store = s.store ∧
      (s.protectionSweep).handling = s.handling := by
  unfold State.protectionSweep; (try dsimp only); (repeat' split) <;> simp

@[simp] theorem State.protectionSweep_lk  (s : State) (k : Link) :
    ((s.protectionSweep).links.get k).live = (s.links.get k).live ∧ ((s.protectionSweep).links.get k).timer = (s.links.get k).timer ∧
      ((s.protectionSweep).links.get k).shortTaken = (s.links.get k).shortTaken ∧ ((s.protectionSweep).links.get k).longTaken = (s.links.get k).longTaken ∧
      ((s.protectionSweep).links.get k).shortN = (s.links.get k).shortN ∧ ((s.protectionSweep).links.get k).longN = (s.links.get k).longN ∧
      ((s.protectionSweep).links.get k).rxQueue = (s.links.get k).rxQueue ∧ ((s.protectionSweep).links.get k).part = (s.links.get k).part ∧
      ((s.protectionSweep).links.get k).batch = (s.links.get k).batch ∧ ((s.protectionSweep).links.get k).snapshot = (s.links.get k).snapshot ∧
      ((s.protectionSweep).links.get k).mask = (s.links.get k).mask ∧ ((s.protectionSweep).links.get k).echo = (s.links.get k).echo := by
  unfold State.protectionSweep; (try dsimp only); (repeat' split) <;> simp

@[simp] theorem State.protectionSweep_uart  (s : State) :
    ((s.protectionSweep).links.get .p).sent = (s.links.get .p).sent ∧
      ((s.protectionSweep).links.get .t).sent = (s.links.get .t).sent := by
  unfold State.protectionSweep; (try dsimp only); (repeat' split) <;> simp

@[simp] theorem State.clearChannel_frame (r : RecNo) (s : State) :
    (s.clearChannel r).pending = s.pending ∧ (s.clearChannel r).phase = s.phase ∧
      (s.clearChannel r).mu = s.mu ∧ (s.clearChannel r).prev = s.prev ∧
      (s.clearChannel r).acct = s.acct ∧ (s.clearChannel r).chg = s.chg ∧
      (s.clearChannel r).set = s.set ∧ (s.clearChannel r).inForce = s.inForce ∧ (s.clearChannel r).reg = s.reg ∧
      (s.clearChannel r).alloc = s.alloc ∧ (s.clearChannel r).clim = s.clim ∧
      (s.clearChannel r).water = s.water ∧ (s.clearChannel r).wind = s.wind ∧
      (s.clearChannel r).can = s.can ∧ (s.clearChannel r).vehicle = s.vehicle ∧
      (s.clearChannel r).store = s.store ∧ (s.clearChannel r).handling = s.handling := by
  unfold State.clearChannel; (try dsimp only); (repeat' split) <;> simp

@[simp] theorem State.clearChannel_lk (r : RecNo) (s : State) (k : Link) :
    ((s.clearChannel r).links.get k).live = (s.links.get k).live ∧ ((s.clearChannel r).links.get k).timer = (s.links.get k).timer ∧
      ((s.clearChannel r).links.get k).shortTaken = (s.links.get k).shortTaken ∧ ((s.clearChannel r).links.get k).longTaken = (s.links.get k).longTaken ∧
      ((s.clearChannel r).links.get k).shortN = (s.links.get k).shortN ∧ ((s.clearChannel r).links.get k).longN = (s.links.get k).longN ∧
      ((s.clearChannel r).links.get k).rxQueue = (s.links.get k).rxQueue ∧ ((s.clearChannel r).links.get k).part = (s.links.get k).part ∧
      ((s.clearChannel r).links.get k).batch = (s.links.get k).batch ∧ ((s.clearChannel r).links.get k).snapshot = (s.links.get k).snapshot ∧
      ((s.clearChannel r).links.get k).mask = (s.links.get k).mask ∧ ((s.clearChannel r).links.get k).echo = (s.links.get k).echo := by
  unfold State.clearChannel; (try dsimp only); (repeat' split) <;> simp

@[simp] theorem State.clearChannel_uart (r : RecNo) (s : State) :
    ((s.clearChannel r).links.get .p).sent = (s.links.get .p).sent ∧
      ((s.clearChannel r).links.get .t).sent = (s.links.get .t).sent := by
  unfold State.clearChannel; (try dsimp only); (repeat' split) <;> simp

@[simp] theorem State.loadsResetRows_frame  (s : State) :
    (channelRecs.foldl (fun (t : State) r => t.modRec r LoadRec.loadsReset) s).pending = s.pending ∧ (channelRecs.foldl (fun (t : State) r => t.modRec r LoadRec.loadsReset) s).phase = s.phase ∧
      (channelRecs.foldl (fun (t : State) r => t.modRec r LoadRec.loadsReset) s).mu = s.mu ∧ (channelRecs.foldl (fun (t : State) r => t.modRec r LoadRec.loadsReset) s).prev = s.prev ∧
      (channelRecs.foldl (fun (t : State) r => t.modRec r LoadRec.loadsReset) s).acct = s.acct ∧ (channelRecs.foldl (fun (t : State) r => t.modRec r LoadRec.loadsReset) s).chg = s.chg ∧
      (channelRecs.foldl (fun (t : State) r => t.modRec r LoadRec.loadsReset) s).set = s.set ∧ (channelRecs.foldl (fun (t : State) r => t.modRec r LoadRec.loadsReset) s).inForce = s.inForce ∧ (channelRecs.foldl (fun (t : State) r => t.modRec r LoadRec.loadsReset) s).reg = s.reg ∧
      (channelRecs.foldl (fun (t : State) r => t.modRec r LoadRec.loadsReset) s).alloc = s.alloc ∧ (channelRecs.foldl (fun (t : State) r => t.modRec r LoadRec.loadsReset) s).clim = s.clim ∧
      (channelRecs.foldl (fun (t : State) r => t.modRec r LoadRec.loadsReset) s).water = s.water ∧ (channelRecs.foldl (fun (t : State) r => t.modRec r LoadRec.loadsReset) s).wind = s.wind ∧
      (channelRecs.foldl (fun (t : State) r => t.modRec r LoadRec.loadsReset) s).can = s.can ∧ (channelRecs.foldl (fun (t : State) r => t.modRec r LoadRec.loadsReset) s).vehicle = s.vehicle ∧
      (channelRecs.foldl (fun (t : State) r => t.modRec r LoadRec.loadsReset) s).store = s.store ∧ (channelRecs.foldl (fun (t : State) r => t.modRec r LoadRec.loadsReset) s).handling = s.handling := by
  exact ⟨foldl_keeps (State.pending) _ (fun _ _ => by simp) _ _,
    foldl_keeps (State.phase) _ (fun _ _ => by simp) _ _,
    foldl_keeps (State.mu) _ (fun _ _ => by simp) _ _,
    foldl_keeps (State.prev) _ (fun _ _ => by simp) _ _,
    foldl_keeps (State.acct) _ (fun _ _ => by simp) _ _,
    foldl_keeps (State.chg) _ (fun _ _ => by simp) _ _,
    foldl_keeps (State.set) _ (fun _ _ => by simp) _ _,
    foldl_keeps (State.inForce) _ (fun _ _ => by simp) _ _,
    foldl_keeps (State.reg) _ (fun _ _ => by simp) _ _,
    foldl_keeps (State.alloc) _ (fun _ _ => by simp) _ _,
    foldl_keeps (State.clim) _ (fun _ _ => by simp) _ _,
    foldl_keeps (State.water) _ (fun _ _ => by simp) _ _,
    foldl_keeps (State.wind) _ (fun _ _ => by simp) _ _,
    foldl_keeps (State.can) _ (fun _ _ => by simp) _ _,
    foldl_keeps (State.vehicle) _ (fun _ _ => by simp) _ _,
    foldl_keeps (State.store) _ (fun _ _ => by simp) _ _,
    foldl_keeps (State.handling) _ (fun _ _ => by simp) _ _⟩

@[simp] theorem State.loadsResetRows_lk  (s : State) (k : Link) :
    ((channelRecs.foldl (fun (t : State) r => t.modRec r LoadRec.loadsReset) s).links.get k).live = (s.links.get k).live ∧ ((channelRecs.foldl (fun (t : State) r => t.modRec r LoadRec.loadsReset) s).links.get k).timer = (s.links.get k).timer ∧
      ((channelRecs.foldl (fun (t : State) r => t.modRec r LoadRec.loadsReset) s).links.get k).shortTaken = (s.links.get k).shortTaken ∧ ((channelRecs.foldl (fun (t : State) r => t.modRec r LoadRec.loadsReset) s).links.get k).longTaken = (s.links.get k).longTaken ∧
      ((channelRecs.foldl (fun (t : State) r => t.modRec r LoadRec.loadsReset) s).links.get k).shortN = (s.links.get k).shortN ∧ ((channelRecs.foldl (fun (t : State) r => t.modRec r LoadRec.loadsReset) s).links.get k).longN = (s.links.get k).longN ∧
      ((channelRecs.foldl (fun (t : State) r => t.modRec r LoadRec.loadsReset) s).links.get k).rxQueue = (s.links.get k).rxQueue ∧ ((channelRecs.foldl (fun (t : State) r => t.modRec r LoadRec.loadsReset) s).links.get k).part = (s.links.get k).part ∧
      ((channelRecs.foldl (fun (t : State) r => t.modRec r LoadRec.loadsReset) s).links.get k).batch = (s.links.get k).batch ∧ ((channelRecs.foldl (fun (t : State) r => t.modRec r LoadRec.loadsReset) s).links.get k).snapshot = (s.links.get k).snapshot ∧
      ((channelRecs.foldl (fun (t : State) r => t.modRec r LoadRec.loadsReset) s).links.get k).mask = (s.links.get k).mask ∧ ((channelRecs.foldl (fun (t : State) r => t.modRec r LoadRec.loadsReset) s).links.get k).echo = (s.links.get k).echo := by
  exact ⟨foldl_keeps (fun u : State => (u.links.get k).live) _ (fun _ _ => by simp) _ _,
    foldl_keeps (fun u : State => (u.links.get k).timer) _ (fun _ _ => by simp) _ _,
    foldl_keeps (fun u : State => (u.links.get k).shortTaken) _ (fun _ _ => by simp) _ _,
    foldl_keeps (fun u : State => (u.links.get k).longTaken) _ (fun _ _ => by simp) _ _,
    foldl_keeps (fun u : State => (u.links.get k).shortN) _ (fun _ _ => by simp) _ _,
    foldl_keeps (fun u : State => (u.links.get k).longN) _ (fun _ _ => by simp) _ _,
    foldl_keeps (fun u : State => (u.links.get k).rxQueue) _ (fun _ _ => by simp) _ _,
    foldl_keeps (fun u : State => (u.links.get k).part) _ (fun _ _ => by simp) _ _,
    foldl_keeps (fun u : State => (u.links.get k).batch) _ (fun _ _ => by simp) _ _,
    foldl_keeps (fun u : State => (u.links.get k).snapshot) _ (fun _ _ => by simp) _ _,
    foldl_keeps (fun u : State => (u.links.get k).mask) _ (fun _ _ => by simp) _ _,
    foldl_keeps (fun u : State => (u.links.get k).echo) _ (fun _ _ => by simp) _ _⟩

@[simp] theorem State.loadsResetRows_uart  (s : State) :
    ((channelRecs.foldl (fun (t : State) r => t.modRec r LoadRec.loadsReset) s).links.get .p).sent = (s.links.get .p).sent ∧
      ((channelRecs.foldl (fun (t : State) r => t.modRec r LoadRec.loadsReset) s).links.get .t).sent = (s.links.get .t).sent := by
  exact ⟨foldl_keeps (fun u : State => (u.links.get .p).sent) _ (fun _ _ => by simp) _ _,
    foldl_keeps (fun u : State => (u.links.get .t).sent) _ (fun _ _ => by simp) _ _⟩

@[simp] theorem State.protectionReset_frame  (s : State) :
    (s.protectionReset).pending = s.pending ∧ (s.protectionReset).phase = s.phase ∧
      (s.protectionReset).mu = s.mu ∧ (s.protectionReset).prev = s.prev ∧
      (s.protectionReset).acct = s.acct ∧ (s.protectionReset).chg = s.chg ∧
      (s.protectionReset).set = s.set ∧ (s.protectionReset).inForce = s.inForce ∧ (s.protectionReset).reg = s.reg ∧
      (s.protectionReset).alloc = s.alloc ∧ (s.protectionReset).clim = s.clim ∧
      (s.protectionReset).water = s.water ∧ (s.protectionReset).wind = s.wind ∧
      (s.protectionReset).can = s.can ∧ (s.protectionReset).vehicle = s.vehicle ∧
      (s.protectionReset).store = s.store ∧ (s.protectionReset).handling = s.handling := by
  simp [State.protectionReset]

@[simp] theorem State.protectionReset_lk  (s : State) (k : Link) :
    ((s.protectionReset).links.get k).live = (s.links.get k).live ∧ ((s.protectionReset).links.get k).timer = (s.links.get k).timer ∧
      ((s.protectionReset).links.get k).shortTaken = (s.links.get k).shortTaken ∧ ((s.protectionReset).links.get k).longTaken = (s.links.get k).longTaken ∧
      ((s.protectionReset).links.get k).shortN = (s.links.get k).shortN ∧ ((s.protectionReset).links.get k).longN = (s.links.get k).longN ∧
      ((s.protectionReset).links.get k).rxQueue = (s.links.get k).rxQueue ∧ ((s.protectionReset).links.get k).part = (s.links.get k).part ∧
      ((s.protectionReset).links.get k).batch = (s.links.get k).batch ∧ ((s.protectionReset).links.get k).snapshot = (s.links.get k).snapshot ∧
      ((s.protectionReset).links.get k).mask = (s.links.get k).mask ∧ ((s.protectionReset).links.get k).echo = (s.links.get k).echo := by
  simp [State.protectionReset]

@[simp] theorem State.protectionReset_uart  (s : State) :
    ((s.protectionReset).links.get .p).sent = (s.links.get .p).sent ∧
      ((s.protectionReset).links.get .t).sent = (s.links.get .t).sent := by
  simp [State.protectionReset]

@[simp] theorem State.startSlot_frame (n : Fin 13) (s : State) :
    (s.startSlot n).pending = s.pending ∧ (s.startSlot n).phase = s.phase ∧
      (s.startSlot n).mu = s.mu ∧ (s.startSlot n).prev = s.prev ∧
      (s.startSlot n).acct = s.acct ∧ (s.startSlot n).chg = s.chg ∧
      (s.startSlot n).set = s.set ∧ (s.startSlot n).inForce = s.inForce ∧ (s.startSlot n).tab = s.tab ∧
      (s.startSlot n).reg = s.reg ∧ (s.startSlot n).alloc = s.alloc ∧
      (s.startSlot n).clim = s.clim ∧ (s.startSlot n).water = s.water ∧
      (s.startSlot n).mot = s.mot ∧ (s.startSlot n).wind = s.wind ∧
      (s.startSlot n).light = s.light ∧ (s.startSlot n).links = s.links ∧
      (s.startSlot n).can = s.can ∧ (s.startSlot n).vehicle = s.vehicle ∧
      (s.startSlot n).log = s.log ∧ (s.startSlot n).store = s.store ∧
      (s.startSlot n).handling = s.handling := by
  simp [State.startSlot]

@[simp] theorem State.channelFail_frame (r : RecNo) (s : State) :
    (s.channelFail r).pending = s.pending ∧ (s.channelFail r).phase = s.phase ∧
      (s.channelFail r).mu = s.mu ∧ (s.channelFail r).prev = s.prev ∧
      (s.channelFail r).acct = s.acct ∧ (s.channelFail r).set = s.set ∧ (s.channelFail r).inForce = s.inForce ∧
      (s.channelFail r).reg = s.reg ∧ (s.channelFail r).alloc = s.alloc ∧
      (s.channelFail r).wind = s.wind ∧ (s.channelFail r).can = s.can ∧
      (s.channelFail r).vehicle = s.vehicle ∧ (s.channelFail r).store = s.store ∧
      (s.channelFail r).handling = s.handling := by
  unfold State.channelFail; (try dsimp only); (repeat' split) <;> simp

@[simp] theorem State.channelFail_lk (r : RecNo) (s : State) (k : Link) :
    ((s.channelFail r).links.get k).live = (s.links.get k).live ∧ ((s.channelFail r).links.get k).timer = (s.links.get k).timer ∧
      ((s.channelFail r).links.get k).shortTaken = (s.links.get k).shortTaken ∧ ((s.channelFail r).links.get k).longTaken = (s.links.get k).longTaken ∧
      ((s.channelFail r).links.get k).shortN = (s.links.get k).shortN ∧ ((s.channelFail r).links.get k).longN = (s.links.get k).longN ∧
      ((s.channelFail r).links.get k).rxQueue = (s.links.get k).rxQueue ∧ ((s.channelFail r).links.get k).part = (s.links.get k).part ∧
      ((s.channelFail r).links.get k).batch = (s.links.get k).batch ∧ ((s.channelFail r).links.get k).snapshot = (s.links.get k).snapshot ∧
      ((s.channelFail r).links.get k).mask = (s.links.get k).mask ∧ ((s.channelFail r).links.get k).echo = (s.links.get k).echo := by
  unfold State.channelFail; (try dsimp only); (repeat' split) <;> simp

@[simp] theorem State.channelFail_uart (r : RecNo) (s : State) :
    ((s.channelFail r).links.get .p).sent = (s.links.get .p).sent ∧
      ((s.channelFail r).links.get .t).sent = (s.links.get .t).sent := by
  unfold State.channelFail; (try dsimp only); (repeat' split) <;> simp

@[simp] theorem State.channelResult_frame (r : RecNo) (x : TestResult) (s : State) :
    (s.channelResult r x).pending = s.pending ∧ (s.channelResult r x).phase = s.phase ∧
      (s.channelResult r x).mu = s.mu ∧ (s.channelResult r x).prev = s.prev ∧
      (s.channelResult r x).acct = s.acct ∧ (s.channelResult r x).set = s.set ∧ (s.channelResult r x).inForce = s.inForce ∧
      (s.channelResult r x).reg = s.reg ∧ (s.channelResult r x).alloc = s.alloc ∧
      (s.channelResult r x).wind = s.wind ∧ (s.channelResult r x).can = s.can ∧
      (s.channelResult r x).vehicle = s.vehicle ∧ (s.channelResult r x).store = s.store ∧
      (s.channelResult r x).handling = s.handling := by
  unfold State.channelResult; (try dsimp only); (repeat' split) <;> simp

@[simp] theorem State.channelResult_lk (r : RecNo) (x : TestResult) (s : State) (k : Link) :
    ((s.channelResult r x).links.get k).live = (s.links.get k).live ∧ ((s.channelResult r x).links.get k).timer = (s.links.get k).timer ∧
      ((s.channelResult r x).links.get k).shortTaken = (s.links.get k).shortTaken ∧ ((s.channelResult r x).links.get k).longTaken = (s.links.get k).longTaken ∧
      ((s.channelResult r x).links.get k).shortN = (s.links.get k).shortN ∧ ((s.channelResult r x).links.get k).longN = (s.links.get k).longN ∧
      ((s.channelResult r x).links.get k).rxQueue = (s.links.get k).rxQueue ∧ ((s.channelResult r x).links.get k).part = (s.links.get k).part ∧
      ((s.channelResult r x).links.get k).batch = (s.links.get k).batch ∧ ((s.channelResult r x).links.get k).snapshot = (s.links.get k).snapshot ∧
      ((s.channelResult r x).links.get k).mask = (s.links.get k).mask ∧ ((s.channelResult r x).links.get k).echo = (s.links.get k).echo := by
  unfold State.channelResult; (try dsimp only); (repeat' split) <;> simp

@[simp] theorem State.channelResult_uart (r : RecNo) (x : TestResult) (s : State) :
    ((s.channelResult r x).links.get .p).sent = (s.links.get .p).sent ∧
      ((s.channelResult r x).links.get .t).sent = (s.links.get .t).sent := by
  unfold State.channelResult; (try dsimp only); (repeat' split) <;> simp

@[simp] theorem State.bankResult_frame (x : TestResult) (s : State) :
    (s.bankResult x).pending = s.pending ∧ (s.bankResult x).phase = s.phase ∧
      (s.bankResult x).mu = s.mu ∧ (s.bankResult x).prev = s.prev ∧
      (s.bankResult x).chg = s.chg ∧ (s.bankResult x).set = s.set ∧ (s.bankResult x).inForce = s.inForce ∧
      (s.bankResult x).tab = s.tab ∧ (s.bankResult x).test = s.test ∧
      (s.bankResult x).reg = s.reg ∧ (s.bankResult x).alloc = s.alloc ∧
      (s.bankResult x).clim = s.clim ∧ (s.bankResult x).water = s.water ∧
      (s.bankResult x).mot = s.mot ∧ (s.bankResult x).wind = s.wind ∧
      (s.bankResult x).light = s.light ∧ (s.bankResult x).can = s.can ∧
      (s.bankResult x).vehicle = s.vehicle ∧ (s.bankResult x).store = s.store ∧
      (s.bankResult x).handling = s.handling := by
  unfold State.bankResult; (try dsimp only); (repeat' split) <;> simp

@[simp] theorem State.bankResult_lk (x : TestResult) (s : State) (k : Link) :
    ((s.bankResult x).links.get k).live = (s.links.get k).live ∧ ((s.bankResult x).links.get k).timer = (s.links.get k).timer ∧
      ((s.bankResult x).links.get k).shortTaken = (s.links.get k).shortTaken ∧ ((s.bankResult x).links.get k).longTaken = (s.links.get k).longTaken ∧
      ((s.bankResult x).links.get k).shortN = (s.links.get k).shortN ∧ ((s.bankResult x).links.get k).longN = (s.links.get k).longN ∧
      ((s.bankResult x).links.get k).rxQueue = (s.links.get k).rxQueue ∧ ((s.bankResult x).links.get k).part = (s.links.get k).part ∧
      ((s.bankResult x).links.get k).batch = (s.links.get k).batch ∧ ((s.bankResult x).links.get k).snapshot = (s.links.get k).snapshot ∧
      ((s.bankResult x).links.get k).mask = (s.links.get k).mask ∧ ((s.bankResult x).links.get k).echo = (s.links.get k).echo := by
  unfold State.bankResult; (try dsimp only); (repeat' split) <;> simp

@[simp] theorem State.bankResult_uart (x : TestResult) (s : State) :
    ((s.bankResult x).links.get .p).sent = (s.links.get .p).sent ∧
      ((s.bankResult x).links.get .t).sent = (s.links.get .t).sent := by
  unfold State.bankResult; (try dsimp only); (repeat' split) <;> simp

@[simp] theorem State.slotEnd_frame (b : Bool) (s : State) :
    (s.slotEnd b).pending = s.pending ∧ (s.slotEnd b).phase = s.phase ∧
      (s.slotEnd b).mu = s.mu ∧ (s.slotEnd b).prev = s.prev ∧
      (s.slotEnd b).set = s.set ∧ (s.slotEnd b).inForce = s.inForce ∧ (s.slotEnd b).reg = s.reg ∧
      (s.slotEnd b).alloc = s.alloc ∧ (s.slotEnd b).wind = s.wind ∧
      (s.slotEnd b).can = s.can ∧ (s.slotEnd b).vehicle = s.vehicle ∧
      (s.slotEnd b).store = s.store ∧ (s.slotEnd b).handling = s.handling := by
  unfold State.slotEnd; (try dsimp only); (repeat' split) <;> simp

@[simp] theorem State.slotEnd_lk (b : Bool) (s : State) (k : Link) :
    ((s.slotEnd b).links.get k).live = (s.links.get k).live ∧ ((s.slotEnd b).links.get k).timer = (s.links.get k).timer ∧
      ((s.slotEnd b).links.get k).shortTaken = (s.links.get k).shortTaken ∧ ((s.slotEnd b).links.get k).longTaken = (s.links.get k).longTaken ∧
      ((s.slotEnd b).links.get k).shortN = (s.links.get k).shortN ∧ ((s.slotEnd b).links.get k).longN = (s.links.get k).longN ∧
      ((s.slotEnd b).links.get k).rxQueue = (s.links.get k).rxQueue ∧ ((s.slotEnd b).links.get k).part = (s.links.get k).part ∧
      ((s.slotEnd b).links.get k).batch = (s.links.get k).batch ∧ ((s.slotEnd b).links.get k).snapshot = (s.links.get k).snapshot ∧
      ((s.slotEnd b).links.get k).mask = (s.links.get k).mask ∧ ((s.slotEnd b).links.get k).echo = (s.links.get k).echo := by
  unfold State.slotEnd; (try dsimp only); (repeat' split) <;> simp

@[simp] theorem State.slotEnd_uart (b : Bool) (s : State) :
    ((s.slotEnd b).links.get .p).sent = (s.links.get .p).sent ∧
      ((s.slotEnd b).links.get .t).sent = (s.links.get .t).sent := by
  unfold State.slotEnd; (try dsimp only); (repeat' split) <;> simp

/-! ### Energy account -/

@[simp] theorem State.publishCut_frame  (s : State) :
    (s.publishCut).pending = s.pending ∧ (s.publishCut).phase = s.phase ∧
      (s.publishCut).mu = s.mu ∧ (s.publishCut).prev = s.prev ∧
      (s.publishCut).acct = s.acct ∧ (s.publishCut).chg = s.chg ∧
      (s.publishCut).set = s.set ∧ (s.publishCut).inForce = s.inForce ∧ (s.publishCut).test = s.test ∧
      (s.publishCut).alloc = s.alloc ∧ (s.publishCut).wind = s.wind ∧
      (s.publishCut).can = s.can ∧ (s.publishCut).vehicle = s.vehicle ∧
      (s.publishCut).store = s.store ∧ (s.publishCut).handling = s.handling := by
  simp [State.publishCut]

@[simp] theorem State.publishCut_lk  (s : State) (k : Link) :
    ((s.publishCut).links.get k).live = (s.links.get k).live ∧ ((s.publishCut).links.get k).timer = (s.links.get k).timer ∧
      ((s.publishCut).links.get k).shortTaken = (s.links.get k).shortTaken ∧ ((s.publishCut).links.get k).longTaken = (s.links.get k).longTaken ∧
      ((s.publishCut).links.get k).shortN = (s.links.get k).shortN ∧ ((s.publishCut).links.get k).longN = (s.links.get k).longN ∧
      ((s.publishCut).links.get k).rxQueue = (s.links.get k).rxQueue ∧ ((s.publishCut).links.get k).part = (s.links.get k).part ∧
      ((s.publishCut).links.get k).batch = (s.links.get k).batch ∧ ((s.publishCut).links.get k).snapshot = (s.links.get k).snapshot ∧
      ((s.publishCut).links.get k).mask = (s.links.get k).mask ∧ ((s.publishCut).links.get k).echo = (s.links.get k).echo := by
  simp [State.publishCut]

@[simp] theorem State.publishCut_uart  (s : State) :
    ((s.publishCut).links.get .p).sent = (s.links.get .p).sent ∧
      ((s.publishCut).links.get .t).sent = (s.links.get .t).sent := by
  simp [State.publishCut]

/-- Every drive following a change leaves what the change leaves, but for the motors, the lights, the self-test and
what a raising touches. -/
theorem State.withDrives_keeps {α : Type} (g : State → α) (f : State → State) (s : State)
    (h : ∀ r b t, g (State.noteDrive r b t) = g t) : g (s.withDrives f) = g (f s) :=
  foldl_keeps g _ (fun t r => h r _ t) _ _

@[simp] theorem State.withDrives_frame (f : State → State) (s : State) :
    (s.withDrives f).pending = (f s).pending ∧ (s.withDrives f).phase = (f s).phase ∧
      (s.withDrives f).mu = (f s).mu ∧ (s.withDrives f).prev = (f s).prev ∧
      (s.withDrives f).acct = (f s).acct ∧ (s.withDrives f).chg = (f s).chg ∧
      (s.withDrives f).set = (f s).set ∧ (s.withDrives f).inForce = (f s).inForce ∧ (s.withDrives f).tab = (f s).tab ∧
      (s.withDrives f).reg = (f s).reg ∧ (s.withDrives f).alloc = (f s).alloc ∧
      (s.withDrives f).clim = (f s).clim ∧ (s.withDrives f).water = (f s).water ∧
      (s.withDrives f).wind = (f s).wind ∧ (s.withDrives f).can = (f s).can ∧
      (s.withDrives f).vehicle = (f s).vehicle ∧ (s.withDrives f).store = (f s).store ∧
      (s.withDrives f).handling = (f s).handling := by
  exact ⟨State.withDrives_keeps State.pending f s fun _ _ _ => by simp,
    State.withDrives_keeps State.phase f s fun _ _ _ => by simp,
    State.withDrives_keeps State.mu f s fun _ _ _ => by simp,
    State.withDrives_keeps State.prev f s fun _ _ _ => by simp,
    State.withDrives_keeps State.acct f s fun _ _ _ => by simp,
    State.withDrives_keeps State.chg f s fun _ _ _ => by simp,
    State.withDrives_keeps State.set f s fun _ _ _ => by simp,
    State.withDrives_keeps State.inForce f s fun _ _ _ => by simp,
    State.withDrives_keeps State.tab f s fun _ _ _ => by simp,
    State.withDrives_keeps State.reg f s fun _ _ _ => by simp,
    State.withDrives_keeps State.alloc f s fun _ _ _ => by simp,
    State.withDrives_keeps State.clim f s fun _ _ _ => by simp,
    State.withDrives_keeps State.water f s fun _ _ _ => by simp,
    State.withDrives_keeps State.wind f s fun _ _ _ => by simp,
    State.withDrives_keeps State.can f s fun _ _ _ => by simp,
    State.withDrives_keeps State.vehicle f s fun _ _ _ => by simp,
    State.withDrives_keeps State.store f s fun _ _ _ => by simp,
    State.withDrives_keeps State.handling f s fun _ _ _ => by simp⟩

@[simp] theorem State.withDrives_lk (f : State → State) (s : State) (k : Link) :
    ((s.withDrives f).links.get k).live = ((f s).links.get k).live ∧
      ((s.withDrives f).links.get k).timer = ((f s).links.get k).timer ∧
      ((s.withDrives f).links.get k).shortTaken = ((f s).links.get k).shortTaken ∧
      ((s.withDrives f).links.get k).longTaken = ((f s).links.get k).longTaken ∧
      ((s.withDrives f).links.get k).shortN = ((f s).links.get k).shortN ∧
      ((s.withDrives f).links.get k).longN = ((f s).links.get k).longN ∧
      ((s.withDrives f).links.get k).rxQueue = ((f s).links.get k).rxQueue ∧
      ((s.withDrives f).links.get k).part = ((f s).links.get k).part ∧
      ((s.withDrives f).links.get k).batch = ((f s).links.get k).batch ∧
      ((s.withDrives f).links.get k).snapshot = ((f s).links.get k).snapshot ∧
      ((s.withDrives f).links.get k).mask = ((f s).links.get k).mask ∧
      ((s.withDrives f).links.get k).echo = ((f s).links.get k).echo := by
  exact ⟨State.withDrives_keeps (fun u : State => (u.links.get k).live) f s fun _ _ _ => by simp,
    State.withDrives_keeps (fun u : State => (u.links.get k).timer) f s fun _ _ _ => by simp,
    State.withDrives_keeps (fun u : State => (u.links.get k).shortTaken) f s fun _ _ _ => by simp,
    State.withDrives_keeps (fun u : State => (u.links.get k).longTaken) f s fun _ _ _ => by simp,
    State.withDrives_keeps (fun u : State => (u.links.get k).shortN) f s fun _ _ _ => by simp,
    State.withDrives_keeps (fun u : State => (u.links.get k).longN) f s fun _ _ _ => by simp,
    State.withDrives_keeps (fun u : State => (u.links.get k).rxQueue) f s fun _ _ _ => by simp,
    State.withDrives_keeps (fun u : State => (u.links.get k).part) f s fun _ _ _ => by simp,
    State.withDrives_keeps (fun u : State => (u.links.get k).batch) f s fun _ _ _ => by simp,
    State.withDrives_keeps (fun u : State => (u.links.get k).snapshot) f s fun _ _ _ => by simp,
    State.withDrives_keeps (fun u : State => (u.links.get k).mask) f s fun _ _ _ => by simp,
    State.withDrives_keeps (fun u : State => (u.links.get k).echo) f s fun _ _ _ => by simp⟩

@[simp] theorem State.withDrives_uart (f : State → State) (s : State) :
    ((s.withDrives f).links.get .p).sent = ((f s).links.get .p).sent ∧
      ((s.withDrives f).links.get .t).sent = ((f s).links.get .t).sent := by
  exact ⟨State.withDrives_keeps (fun u : State => (u.links.get .p).sent) f s fun _ _ _ => by simp,
    State.withDrives_keeps (fun u : State => (u.links.get .t).sent) f s fun _ _ _ => by simp⟩

@[simp] theorem State.publishAccount_frame (a : Account) (s : State) :
    (s.publishAccount a).pending = s.pending ∧ (s.publishAccount a).phase = s.phase ∧
      (s.publishAccount a).mu = s.mu ∧ (s.publishAccount a).prev = s.prev ∧
      (s.publishAccount a).chg = s.chg ∧ (s.publishAccount a).set = s.set ∧ (s.publishAccount a).inForce = s.inForce ∧
      (s.publishAccount a).alloc = s.alloc ∧ (s.publishAccount a).wind = s.wind ∧
      (s.publishAccount a).can = s.can ∧ (s.publishAccount a).vehicle = s.vehicle ∧
      (s.publishAccount a).store = s.store ∧ (s.publishAccount a).handling = s.handling := by
  unfold State.publishAccount; (try dsimp only); (repeat' split) <;> simp

@[simp] theorem State.publishAccount_lk (a : Account) (s : State) (k : Link) :
    ((s.publishAccount a).links.get k).live = (s.links.get k).live ∧ ((s.publishAccount a).links.get k).timer = (s.links.get k).timer ∧
      ((s.publishAccount a).links.get k).shortTaken = (s.links.get k).shortTaken ∧ ((s.publishAccount a).links.get k).longTaken = (s.links.get k).longTaken ∧
      ((s.publishAccount a).links.get k).shortN = (s.links.get k).shortN ∧ ((s.publishAccount a).links.get k).longN = (s.links.get k).longN ∧
      ((s.publishAccount a).links.get k).rxQueue = (s.links.get k).rxQueue ∧ ((s.publishAccount a).links.get k).part = (s.links.get k).part ∧
      ((s.publishAccount a).links.get k).batch = (s.links.get k).batch ∧ ((s.publishAccount a).links.get k).snapshot = (s.links.get k).snapshot ∧
      ((s.publishAccount a).links.get k).mask = (s.links.get k).mask ∧ ((s.publishAccount a).links.get k).echo = (s.links.get k).echo := by
  unfold State.publishAccount; (try dsimp only); (repeat' split) <;> simp

@[simp] theorem State.publishAccount_uart (a : Account) (s : State) :
    ((s.publishAccount a).links.get .p).sent = (s.links.get .p).sent ∧
      ((s.publishAccount a).links.get .t).sent = (s.links.get .t).sent := by
  unfold State.publishAccount; (try dsimp only); (repeat' split) <;> simp

/-- R19: the account holds what was published. -/
@[simp] theorem State.publishAccount_acct (a : Account) (s : State) : (s.publishAccount a).acct = a := by
  unfold State.publishAccount; dsimp only; (repeat' split) <;> simp

@[simp] theorem State.handCompletion_frame  (s : State) :
    (s.handCompletion).pending = s.pending ∧ (s.handCompletion).phase = s.phase ∧
      (s.handCompletion).mu = s.mu ∧ (s.handCompletion).prev = s.prev ∧
      (s.handCompletion).acct = s.acct ∧ (s.handCompletion).set = s.set ∧ (s.handCompletion).inForce = s.inForce ∧
      (s.handCompletion).tab = s.tab ∧ (s.handCompletion).test = s.test ∧
      (s.handCompletion).reg = s.reg ∧ (s.handCompletion).alloc = s.alloc ∧
      (s.handCompletion).clim = s.clim ∧ (s.handCompletion).water = s.water ∧
      (s.handCompletion).mot = s.mot ∧ (s.handCompletion).wind = s.wind ∧
      (s.handCompletion).light = s.light ∧ (s.handCompletion).links = s.links ∧
      (s.handCompletion).can = s.can ∧ (s.handCompletion).vehicle = s.vehicle ∧
      (s.handCompletion).log = s.log ∧ (s.handCompletion).store = s.store ∧
      (s.handCompletion).handling = s.handling := by
  unfold State.handCompletion; (try dsimp only); (repeat' split) <;> simp

@[simp] theorem State.accountSweep_frame  (s : State) :
    (s.accountSweep).pending = s.pending ∧ (s.accountSweep).phase = s.phase ∧
      (s.accountSweep).mu = s.mu ∧ (s.accountSweep).prev = s.prev ∧
      (s.accountSweep).set = s.set ∧ (s.accountSweep).inForce = s.inForce ∧ (s.accountSweep).alloc = s.alloc ∧
      (s.accountSweep).wind = s.wind ∧ (s.accountSweep).can = s.can ∧
      (s.accountSweep).vehicle = s.vehicle ∧ (s.accountSweep).store = s.store ∧
      (s.accountSweep).handling = s.handling := by
  unfold State.accountSweep; (try dsimp only); (repeat' split) <;> simp

@[simp] theorem State.accountSweep_lk  (s : State) (k : Link) :
    ((s.accountSweep).links.get k).live = (s.links.get k).live ∧ ((s.accountSweep).links.get k).timer = (s.links.get k).timer ∧
      ((s.accountSweep).links.get k).shortTaken = (s.links.get k).shortTaken ∧ ((s.accountSweep).links.get k).longTaken = (s.links.get k).longTaken ∧
      ((s.accountSweep).links.get k).shortN = (s.links.get k).shortN ∧ ((s.accountSweep).links.get k).longN = (s.links.get k).longN ∧
      ((s.accountSweep).links.get k).rxQueue = (s.links.get k).rxQueue ∧ ((s.accountSweep).links.get k).part = (s.links.get k).part ∧
      ((s.accountSweep).links.get k).batch = (s.links.get k).batch ∧ ((s.accountSweep).links.get k).snapshot = (s.links.get k).snapshot ∧
      ((s.accountSweep).links.get k).mask = (s.links.get k).mask ∧ ((s.accountSweep).links.get k).echo = (s.links.get k).echo := by
  unfold State.accountSweep; (try dsimp only); (repeat' split) <;> simp

@[simp] theorem State.accountSweep_uart  (s : State) :
    ((s.accountSweep).links.get .p).sent = (s.links.get .p).sent ∧
      ((s.accountSweep).links.get .t).sent = (s.links.get .t).sent := by
  unfold State.accountSweep; (try dsimp only); (repeat' split) <;> simp

@[simp] theorem State.accountSettings_frame  (s : State) :
    (s.accountSettings).pending = s.pending ∧ (s.accountSettings).phase = s.phase ∧
      (s.accountSettings).mu = s.mu ∧ (s.accountSettings).prev = s.prev ∧
      (s.accountSettings).set = s.set ∧ (s.accountSettings).inForce = s.inForce ∧ (s.accountSettings).tab = s.tab ∧
      (s.accountSettings).test = s.test ∧ (s.accountSettings).reg = s.reg ∧
      (s.accountSettings).alloc = s.alloc ∧ (s.accountSettings).clim = s.clim ∧
      (s.accountSettings).water = s.water ∧ (s.accountSettings).mot = s.mot ∧
      (s.accountSettings).wind = s.wind ∧ (s.accountSettings).light = s.light ∧
      (s.accountSettings).can = s.can ∧ (s.accountSettings).vehicle = s.vehicle ∧
      (s.accountSettings).log = s.log ∧ (s.accountSettings).store = s.store ∧
      (s.accountSettings).handling = s.handling := by
  simp [State.accountSettings]

@[simp] theorem State.accountSettings_lk  (s : State) (k : Link) :
    ((s.accountSettings).links.get k).live = (s.links.get k).live ∧ ((s.accountSettings).links.get k).timer = (s.links.get k).timer ∧
      ((s.accountSettings).links.get k).shortTaken = (s.links.get k).shortTaken ∧ ((s.accountSettings).links.get k).longTaken = (s.links.get k).longTaken ∧
      ((s.accountSettings).links.get k).shortN = (s.links.get k).shortN ∧ ((s.accountSettings).links.get k).longN = (s.links.get k).longN ∧
      ((s.accountSettings).links.get k).rxQueue = (s.links.get k).rxQueue ∧ ((s.accountSettings).links.get k).part = (s.links.get k).part ∧
      ((s.accountSettings).links.get k).batch = (s.links.get k).batch ∧ ((s.accountSettings).links.get k).snapshot = (s.links.get k).snapshot ∧
      ((s.accountSettings).links.get k).mask = (s.links.get k).mask ∧ ((s.accountSettings).links.get k).echo = (s.links.get k).echo := by
  simp [State.accountSettings]

@[simp] theorem State.accountSettings_uart  (s : State) :
    ((s.accountSettings).links.get .p).sent = (s.links.get .p).sent ∧
      ((s.accountSettings).links.get .t).sent = (s.links.get .t).sent := by
  simp [State.accountSettings]

/-! ### Charge control -/

@[simp] theorem State.chargeStep1_frame  (s : State) :
    (s.chargeStep1).pending = s.pending ∧ (s.chargeStep1).phase = s.phase ∧
      (s.chargeStep1).mu = s.mu ∧ (s.chargeStep1).prev = s.prev ∧
      (s.chargeStep1).acct = s.acct ∧ (s.chargeStep1).set = s.set ∧ (s.chargeStep1).inForce = s.inForce ∧
      (s.chargeStep1).tab = s.tab ∧ (s.chargeStep1).test = s.test ∧
      (s.chargeStep1).reg = s.reg ∧ (s.chargeStep1).alloc = s.alloc ∧
      (s.chargeStep1).clim = s.clim ∧ (s.chargeStep1).water = s.water ∧
      (s.chargeStep1).mot = s.mot ∧ (s.chargeStep1).wind = s.wind ∧
      (s.chargeStep1).light = s.light ∧ (s.chargeStep1).links = s.links ∧
      (s.chargeStep1).can = s.can ∧ (s.chargeStep1).vehicle = s.vehicle ∧
      (s.chargeStep1).log = s.log ∧ (s.chargeStep1).store = s.store ∧
      (s.chargeStep1).handling = s.handling := by
  simp [State.chargeStep1]

@[simp] theorem State.chargeStep2_frame  (s : State) :
    (s.chargeStep2).pending = s.pending ∧ (s.chargeStep2).phase = s.phase ∧
      (s.chargeStep2).mu = s.mu ∧ (s.chargeStep2).prev = s.prev ∧
      (s.chargeStep2).acct = s.acct ∧ (s.chargeStep2).set = s.set ∧ (s.chargeStep2).inForce = s.inForce ∧
      (s.chargeStep2).tab = s.tab ∧ (s.chargeStep2).test = s.test ∧
      (s.chargeStep2).reg = s.reg ∧ (s.chargeStep2).alloc = s.alloc ∧
      (s.chargeStep2).clim = s.clim ∧ (s.chargeStep2).water = s.water ∧
      (s.chargeStep2).mot = s.mot ∧ (s.chargeStep2).wind = s.wind ∧
      (s.chargeStep2).light = s.light ∧ (s.chargeStep2).can = s.can ∧
      (s.chargeStep2).vehicle = s.vehicle ∧ (s.chargeStep2).store = s.store ∧
      (s.chargeStep2).handling = s.handling := by
  unfold State.chargeStep2; (try dsimp only); (repeat' split) <;> simp

@[simp] theorem State.chargeStep2_lk  (s : State) (k : Link) :
    ((s.chargeStep2).links.get k).live = (s.links.get k).live ∧ ((s.chargeStep2).links.get k).timer = (s.links.get k).timer ∧
      ((s.chargeStep2).links.get k).shortTaken = (s.links.get k).shortTaken ∧ ((s.chargeStep2).links.get k).longTaken = (s.links.get k).longTaken ∧
      ((s.chargeStep2).links.get k).shortN = (s.links.get k).shortN ∧ ((s.chargeStep2).links.get k).longN = (s.links.get k).longN ∧
      ((s.chargeStep2).links.get k).rxQueue = (s.links.get k).rxQueue ∧ ((s.chargeStep2).links.get k).part = (s.links.get k).part ∧
      ((s.chargeStep2).links.get k).batch = (s.links.get k).batch ∧ ((s.chargeStep2).links.get k).snapshot = (s.links.get k).snapshot ∧
      ((s.chargeStep2).links.get k).mask = (s.links.get k).mask ∧ ((s.chargeStep2).links.get k).echo = (s.links.get k).echo := by
  unfold State.chargeStep2; (try dsimp only); (repeat' split) <;> simp

@[simp] theorem State.chargeStep2_uart  (s : State) :
    ((s.chargeStep2).links.get .p).sent = (s.links.get .p).sent ∧
      ((s.chargeStep2).links.get .t).sent = (s.links.get .t).sent := by
  unfold State.chargeStep2; (try dsimp only); (repeat' split) <;> simp

@[simp] theorem State.chargeStep3_frame  (s : State) :
    (s.chargeStep3).pending = s.pending ∧ (s.chargeStep3).phase = s.phase ∧
      (s.chargeStep3).mu = s.mu ∧ (s.chargeStep3).prev = s.prev ∧
      (s.chargeStep3).acct = s.acct ∧ (s.chargeStep3).set = s.set ∧ (s.chargeStep3).inForce = s.inForce ∧
      (s.chargeStep3).tab = s.tab ∧ (s.chargeStep3).test = s.test ∧
      (s.chargeStep3).reg = s.reg ∧ (s.chargeStep3).alloc = s.alloc ∧
      (s.chargeStep3).clim = s.clim ∧ (s.chargeStep3).water = s.water ∧
      (s.chargeStep3).mot = s.mot ∧ (s.chargeStep3).wind = s.wind ∧
      (s.chargeStep3).light = s.light ∧ (s.chargeStep3).links = s.links ∧
      (s.chargeStep3).can = s.can ∧ (s.chargeStep3).vehicle = s.vehicle ∧
      (s.chargeStep3).log = s.log ∧ (s.chargeStep3).store = s.store ∧
      (s.chargeStep3).handling = s.handling := by
  simp [State.chargeStep3]

@[simp] theorem State.chargeStep4_frame  (s : State) :
    (s.chargeStep4).pending = s.pending ∧ (s.chargeStep4).phase = s.phase ∧
      (s.chargeStep4).mu = s.mu ∧ (s.chargeStep4).prev = s.prev ∧
      (s.chargeStep4).acct = s.acct ∧ (s.chargeStep4).set = s.set ∧ (s.chargeStep4).inForce = s.inForce ∧
      (s.chargeStep4).tab = s.tab ∧ (s.chargeStep4).test = s.test ∧
      (s.chargeStep4).reg = s.reg ∧ (s.chargeStep4).alloc = s.alloc ∧
      (s.chargeStep4).clim = s.clim ∧ (s.chargeStep4).water = s.water ∧
      (s.chargeStep4).mot = s.mot ∧ (s.chargeStep4).wind = s.wind ∧
      (s.chargeStep4).light = s.light ∧ (s.chargeStep4).can = s.can ∧
      (s.chargeStep4).vehicle = s.vehicle ∧ (s.chargeStep4).log = s.log ∧
      (s.chargeStep4).store = s.store ∧ (s.chargeStep4).handling = s.handling := by
  simp [State.chargeStep4]

@[simp] theorem State.chargeStep4_lk  (s : State) (k : Link) :
    ((s.chargeStep4).links.get k).live = (s.links.get k).live ∧ ((s.chargeStep4).links.get k).timer = (s.links.get k).timer ∧
      ((s.chargeStep4).links.get k).shortTaken = (s.links.get k).shortTaken ∧ ((s.chargeStep4).links.get k).longTaken = (s.links.get k).longTaken ∧
      ((s.chargeStep4).links.get k).shortN = (s.links.get k).shortN ∧ ((s.chargeStep4).links.get k).longN = (s.links.get k).longN ∧
      ((s.chargeStep4).links.get k).rxQueue = (s.links.get k).rxQueue ∧ ((s.chargeStep4).links.get k).part = (s.links.get k).part ∧
      ((s.chargeStep4).links.get k).batch = (s.links.get k).batch ∧ ((s.chargeStep4).links.get k).snapshot = (s.links.get k).snapshot ∧
      ((s.chargeStep4).links.get k).mask = (s.links.get k).mask ∧ ((s.chargeStep4).links.get k).echo = (s.links.get k).echo := by
  simp [State.chargeStep4]

@[simp] theorem State.chargeStep4_uart  (s : State) :
    ((s.chargeStep4).links.get .p).sent = (s.links.get .p).sent ∧
      ((s.chargeStep4).links.get .t).sent = (s.links.get .t).sent := by
  simp [State.chargeStep4]

@[simp] theorem State.chargeStep5_frame  (s : State) :
    (s.chargeStep5).pending = s.pending ∧ (s.chargeStep5).phase = s.phase ∧
      (s.chargeStep5).mu = s.mu ∧ (s.chargeStep5).prev = s.prev ∧
      (s.chargeStep5).acct = s.acct ∧ (s.chargeStep5).set = s.set ∧ (s.chargeStep5).inForce = s.inForce ∧
      (s.chargeStep5).test = s.test ∧ (s.chargeStep5).reg = s.reg ∧
      (s.chargeStep5).alloc = s.alloc ∧ (s.chargeStep5).clim = s.clim ∧
      (s.chargeStep5).water = s.water ∧ (s.chargeStep5).mot = s.mot ∧
      (s.chargeStep5).wind = s.wind ∧ (s.chargeStep5).light = s.light ∧
      (s.chargeStep5).links = s.links ∧ (s.chargeStep5).can = s.can ∧
      (s.chargeStep5).vehicle = s.vehicle ∧ (s.chargeStep5).log = s.log ∧
      (s.chargeStep5).store = s.store ∧ (s.chargeStep5).handling = s.handling := by
  simp [State.chargeStep5]

@[simp] theorem State.chargeSweep_frame  (s : State) :
    (s.chargeSweep).pending = s.pending ∧ (s.chargeSweep).phase = s.phase ∧
      (s.chargeSweep).mu = s.mu ∧ (s.chargeSweep).prev = s.prev ∧
      (s.chargeSweep).acct = s.acct ∧ (s.chargeSweep).set = s.set ∧ (s.chargeSweep).inForce = s.inForce ∧
      (s.chargeSweep).test = s.test ∧ (s.chargeSweep).reg = s.reg ∧
      (s.chargeSweep).alloc = s.alloc ∧ (s.chargeSweep).clim = s.clim ∧
      (s.chargeSweep).water = s.water ∧ (s.chargeSweep).mot = s.mot ∧
      (s.chargeSweep).wind = s.wind ∧ (s.chargeSweep).light = s.light ∧
      (s.chargeSweep).can = s.can ∧ (s.chargeSweep).vehicle = s.vehicle ∧
      (s.chargeSweep).store = s.store ∧ (s.chargeSweep).handling = s.handling := by
  unfold State.chargeSweep; (try dsimp only); (repeat' split) <;> simp

@[simp] theorem State.chargeSweep_lk  (s : State) (k : Link) :
    ((s.chargeSweep).links.get k).live = (s.links.get k).live ∧ ((s.chargeSweep).links.get k).timer = (s.links.get k).timer ∧
      ((s.chargeSweep).links.get k).shortTaken = (s.links.get k).shortTaken ∧ ((s.chargeSweep).links.get k).longTaken = (s.links.get k).longTaken ∧
      ((s.chargeSweep).links.get k).shortN = (s.links.get k).shortN ∧ ((s.chargeSweep).links.get k).longN = (s.links.get k).longN ∧
      ((s.chargeSweep).links.get k).rxQueue = (s.links.get k).rxQueue ∧ ((s.chargeSweep).links.get k).part = (s.links.get k).part ∧
      ((s.chargeSweep).links.get k).batch = (s.links.get k).batch ∧ ((s.chargeSweep).links.get k).snapshot = (s.links.get k).snapshot ∧
      ((s.chargeSweep).links.get k).mask = (s.links.get k).mask ∧ ((s.chargeSweep).links.get k).echo = (s.links.get k).echo := by
  unfold State.chargeSweep; (try dsimp only); (repeat' split) <;> simp

@[simp] theorem State.chargeSweep_uart  (s : State) :
    ((s.chargeSweep).links.get .p).sent = (s.links.get .p).sent ∧
      ((s.chargeSweep).links.get .t).sent = (s.links.get .t).sent := by
  unfold State.chargeSweep; (try dsimp only); (repeat' split) <;> simp

end Sys2Proof.Machine
end

