-- ==== Sys2Proof/Laws/Blocks.lean ====
section
/-!
SUPPORT. What the allocator, the lighting controller, the link supervisor, a CONFIGURE, the entry to RUN and a sweep
leave unchanged.
-/

namespace Sys2Proof.Machine

/-! ### Allocator -/

/-- What one change of a record leaves, the changes of many records leave. -/
theorem foldl_modRec_keeps {α : Type} (g : State → α) (F : RecNo → LoadRec → LoadRec) (l : List RecNo) (s : State)
    (h : ∀ (t : State) (r : RecNo) (f : LoadRec → LoadRec), g (t.modRec r f) = g t) :
    g (l.foldl (fun (t : State) r => t.modRec r (F r)) s) = g s := foldl_keeps g _ (fun t r => h t r _) l s

@[simp] theorem foldl_modRec_frame (F : RecNo → LoadRec → LoadRec) (l : List RecNo) (s : State) :
    (l.foldl (fun (t : State) r => t.modRec r (F r)) s).pending = s.pending ∧ (l.foldl (fun (t : State) r => t.modRec r (F r)) s).phase = s.phase ∧
      (l.foldl (fun (t : State) r => t.modRec r (F r)) s).mu = s.mu ∧ (l.foldl (fun (t : State) r => t.modRec r (F r)) s).prev = s.prev ∧
      (l.foldl (fun (t : State) r => t.modRec r (F r)) s).acct = s.acct ∧ (l.foldl (fun (t : State) r => t.modRec r (F r)) s).chg = s.chg ∧
      (l.foldl (fun (t : State) r => t.modRec r (F r)) s).set = s.set ∧ (l.foldl (fun (t : State) r => t.modRec r (F r)) s).inForce = s.inForce ∧ (l.foldl (fun (t : State) r => t.modRec r (F r)) s).reg = s.reg ∧
      (l.foldl (fun (t : State) r => t.modRec r (F r)) s).alloc = s.alloc ∧ (l.foldl (fun (t : State) r => t.modRec r (F r)) s).clim = s.clim ∧
      (l.foldl (fun (t : State) r => t.modRec r (F r)) s).water = s.water ∧ (l.foldl (fun (t : State) r => t.modRec r (F r)) s).wind = s.wind ∧
      (l.foldl (fun (t : State) r => t.modRec r (F r)) s).can = s.can ∧ (l.foldl (fun (t : State) r => t.modRec r (F r)) s).vehicle = s.vehicle ∧
      (l.foldl (fun (t : State) r => t.modRec r (F r)) s).store = s.store ∧ (l.foldl (fun (t : State) r => t.modRec r (F r)) s).handling = s.handling := by
  exact ⟨foldl_keeps (State.pending) _ (fun _ _ => by simp) _ _,
    foldl_keeps (State.phase) _ (fun _ _ => by simp) _ _,
    foldl_keeps (State.mu) _ (fun _ _ => by simp) _ _,
    foldl_keeps (State.prev) _ (fun _ _ => by simp) _ _,
    foldl_keeps (State.acct) _ (fun _ _ => by simp) _ _,
    foldl_keeps (State.chg) _ (fun _ _ => by simp) _ _,
    foldl_keeps (State.set) _ (fun _ _ => by simp) _ _,
    foldl_keeps (State.inForce) _ (fun _ _ => by simp) _ _,
    foldl_keeps (State.reg) _ (fun _ _ => by simp) _ _,
    foldl_keeps (State.alloc) _ (fun _ _ => by simp) _ _,
    foldl_keeps (State.clim) _ (fun _ _ => by simp) _ _,
    foldl_keeps (State.water) _ (fun _ _ => by simp) _ _,
    foldl_keeps (State.wind) _ (fun _ _ => by simp) _ _,
    foldl_keeps (State.can) _ (fun _ _ => by simp) _ _,
    foldl_keeps (State.vehicle) _ (fun _ _ => by simp) _ _,
    foldl_keeps (State.store) _ (fun _ _ => by simp) _ _,
    foldl_keeps (State.handling) _ (fun _ _ => by simp) _ _⟩

@[simp] theorem foldl_modRec_lk (F : RecNo → LoadRec → LoadRec) (l : List RecNo) (s : State) (k : Link) :
    ((l.foldl (fun (t : State) r => t.modRec r (F r)) s).links.get k).live = (s.links.get k).live ∧ ((l.foldl (fun (t : State) r => t.modRec r (F r)) s).links.get k).timer = (s.links.get k).timer ∧
      ((l.foldl (fun (t : State) r => t.modRec r (F r)) s).links.get k).shortTaken = (s.links.get k).shortTaken ∧ ((l.foldl (fun (t : State) r => t.modRec r (F r)) s).links.get k).longTaken = (s.links.get k).longTaken ∧
      ((l.foldl (fun (t : State) r => t.modRec r (F r)) s).links.get k).shortN = (s.links.get k).shortN ∧ ((l.foldl (fun (t : State) r => t.modRec r (F r)) s).links.get k).longN = (s.links.get k).longN ∧
      ((l.foldl (fun (t : State) r => t.modRec r (F r)) s).links.get k).rxQueue = (s.links.get k).rxQueue ∧ ((l.foldl (fun (t : State) r => t.modRec r (F r)) s).links.get k).part = (s.links.get k).part ∧
      ((l.foldl (fun (t : State) r => t.modRec r (F r)) s).links.get k).batch = (s.links.get k).batch ∧ ((l.foldl (fun (t : State) r => t.modRec r (F r)) s).links.get k).snapshot = (s.links.get k).snapshot ∧
      ((l.foldl (fun (t : State) r => t.modRec r (F r)) s).links.get k).mask = (s.links.get k).mask ∧ ((l.foldl (fun (t : State) r => t.modRec r (F r)) s).links.get k).echo = (s.links.get k).echo := by
  exact ⟨foldl_keeps (fun u : State => (u.links.get k).live) _ (fun _ _ => by simp) _ _,
    foldl_keeps (fun u : State => (u.links.get k).timer) _ (fun _ _ => by simp) _ _,
    foldl_keeps (fun u : State => (u.links.get k).shortTaken) _ (fun _ _ => by simp) _ _,
    foldl_keeps (fun u : State => (u.links.get k).longTaken) _ (fun _ _ => by simp) _ _,
    foldl_keeps (fun u : State => (u.links.get k).shortN) _ (fun _ _ => by simp) _ _,
    foldl_keeps (fun u : State => (u.links.get k).longN) _ (fun _ _ => by simp) _ _,
    foldl_keeps (fun u : State => (u.links.get k).rxQueue) _ (fun _ _ => by simp) _ _,
    foldl_keeps (fun u : State => (u.links.get k).part) _ (fun _ _ => by simp) _ _,
    foldl_keeps (fun u : State => (u.links.get k).batch) _ (fun _ _ => by simp) _ _,
    foldl_keeps (fun u : State => (u.links.get k).snapshot) _ (fun _ _ => by simp) _ _,
    foldl_keeps (fun u : State => (u.links.get k).mask) _ (fun _ _ => by simp) _ _,
    foldl_keeps (fun u : State => (u.links.get k).echo) _ (fun _ _ => by simp) _ _⟩

@[simp] theorem foldl_modRec_uart (F : RecNo → LoadRec → LoadRec) (l : List RecNo) (s : State) :
    ((l.foldl (fun (t : State) r => t.modRec r (F r)) s).links.get .p).sent = (s.links.get .p).sent ∧
      ((l.foldl (fun (t : State) r => t.modRec r (F r)) s).links.get .t).sent = (s.links.get .t).sent := by
  exact ⟨foldl_keeps (fun u : State => (u.links.get .p).sent) _ (fun _ _ => by simp) _ _,
    foldl_keeps (fun u : State => (u.links.get .t).sent) _ (fun _ _ => by simp) _ _⟩

@[simp] theorem State.writePass_frame (p : PassResult) (s : State) :
    (s.writePass p).pending = s.pending ∧ (s.writePass p).phase = s.phase ∧
      (s.writePass p).mu = s.mu ∧ (s.writePass p).prev = s.prev ∧
      (s.writePass p).acct = s.acct ∧ (s.writePass p).chg = s.chg ∧
      (s.writePass p).set = s.set ∧ (s.writePass p).reg = s.reg ∧
      (s.writePass p).water = s.water ∧ (s.writePass p).wind = s.wind ∧
      (s.writePass p).can = s.can ∧ (s.writePass p).vehicle = s.vehicle ∧
      (s.writePass p).store = s.store ∧ (s.writePass p).handling = s.handling := by
  simp [State.writePass]

@[simp] theorem State.writePass_lk (p : PassResult) (s : State) (k : Link) :
    ((s.writePass p).links.get k).live = (s.links.get k).live ∧ ((s.writePass p).links.get k).timer = (s.links.get k).timer ∧
      ((s.writePass p).links.get k).shortTaken = (s.links.get k).shortTaken ∧ ((s.writePass p).links.get k).longTaken = (s.links.get k).longTaken ∧
      ((s.writePass p).links.get k).shortN = (s.links.get k).shortN ∧ ((s.writePass p).links.get k).longN = (s.links.get k).longN ∧
      ((s.writePass p).links.get k).rxQueue = (s.links.get k).rxQueue ∧ ((s.writePass p).links.get k).part = (s.links.get k).part ∧
      ((s.writePass p).links.get k).batch = (s.links.get k).batch ∧ ((s.writePass p).links.get k).snapshot = (s.links.get k).snapshot ∧
      ((s.writePass p).links.get k).mask = (s.links.get k).mask ∧ ((s.writePass p).links.get k).echo = (s.links.get k).echo := by
  simp [State.writePass]

@[simp] theorem State.writePass_uart (p : PassResult) (s : State) :
    ((s.writePass p).links.get .p).sent = (s.links.get .p).sent ∧
      ((s.writePass p).links.get .t).sent = (s.links.get .t).sent := by
  simp [State.writePass]

@[simp] theorem State.allocPass_frame  (s : State) :
    (s.allocPass).pending = s.pending ∧ (s.allocPass).phase = s.phase ∧
      (s.allocPass).mu = s.mu ∧ (s.allocPass).prev = s.prev ∧
      (s.allocPass).acct = s.acct ∧ (s.allocPass).chg = s.chg ∧
      (s.allocPass).set = s.set ∧ (s.allocPass).reg = s.reg ∧
      (s.allocPass).water = s.water ∧ (s.allocPass).wind = s.wind ∧
      (s.allocPass).can = s.can ∧ (s.allocPass).vehicle = s.vehicle ∧
      (s.allocPass).store = s.store ∧ (s.allocPass).handling = s.handling := by
  unfold State.allocPass; (try dsimp only); (repeat' split) <;> simp

@[simp] theorem State.allocPass_lk  (s : State) (k : Link) :
    ((s.allocPass).links.get k).live = (s.links.get k).live ∧ ((s.allocPass).links.get k).timer = (s.links.get k).timer ∧
      ((s.allocPass).links.get k).shortTaken = (s.links.get k).shortTaken ∧ ((s.allocPass).links.get k).longTaken = (s.links.get k).longTaken ∧
      ((s.allocPass).links.get k).shortN = (s.links.get k).shortN ∧ ((s.allocPass).links.get k).longN = (s.links.get k).longN ∧
      ((s.allocPass).links.get k).rxQueue = (s.links.get k).rxQueue ∧ ((s.allocPass).links.get k).part = (s.links.get k).part ∧
      ((s.allocPass).links.get k).batch = (s.links.get k).batch ∧ ((s.allocPass).links.get k).snapshot = (s.links.get k).snapshot ∧
      ((s.allocPass).links.get k).mask = (s.links.get k).mask ∧ ((s.allocPass).links.get k).echo = (s.links.get k).echo := by
  unfold State.allocPass; (try dsimp only); (repeat' split) <;> simp

@[simp] theorem State.allocPass_uart  (s : State) :
    ((s.allocPass).links.get .p).sent = (s.links.get .p).sent ∧
      ((s.allocPass).links.get .t).sent = (s.links.get .t).sent := by
  unfold State.allocPass; (try dsimp only); (repeat' split) <;> simp

@[simp] theorem State.restoreNow_frame (c : LoadClass) (s : State) :
    (s.restoreNow c).pending = s.pending ∧ (s.restoreNow c).phase = s.phase ∧
      (s.restoreNow c).mu = s.mu ∧ (s.restoreNow c).prev = s.prev ∧
      (s.restoreNow c).acct = s.acct ∧ (s.restoreNow c).chg = s.chg ∧
      (s.restoreNow c).set = s.set ∧ (s.restoreNow c).inForce = s.inForce ∧ (s.restoreNow c).reg = s.reg ∧
      (s.restoreNow c).water = s.water ∧ (s.restoreNow c).wind = s.wind ∧
      (s.restoreNow c).can = s.can ∧ (s.restoreNow c).vehicle = s.vehicle ∧
      (s.restoreNow c).store = s.store ∧ (s.restoreNow c).handling = s.handling := by
  unfold State.restoreNow; (try dsimp only); (repeat' split) <;> simp

@[simp] theorem State.restoreNow_lk (c : LoadClass) (s : State) (k : Link) :
    ((s.restoreNow c).links.get k).live = (s.links.get k).live ∧ ((s.restoreNow c).links.get k).timer = (s.links.get k).timer ∧
      ((s.restoreNow c).links.get k).shortTaken = (s.links.get k).shortTaken ∧ ((s.restoreNow c).links.get k).longTaken = (s.links.get k).longTaken ∧
      ((s.restoreNow c).links.get k).shortN = (s.links.get k).shortN ∧ ((s.restoreNow c).links.get k).longN = (s.links.get k).longN ∧
      ((s.restoreNow c).links.get k).rxQueue = (s.links.get k).rxQueue ∧ ((s.restoreNow c).links.get k).part = (s.links.get k).part ∧
      ((s.restoreNow c).links.get k).batch = (s.links.get k).batch ∧ ((s.restoreNow c).links.get k).snapshot = (s.links.get k).snapshot ∧
      ((s.restoreNow c).links.get k).mask = (s.links.get k).mask ∧ ((s.restoreNow c).links.get k).echo = (s.links.get k).echo := by
  unfold State.restoreNow; (try dsimp only); (repeat' split) <;> simp

@[simp] theorem State.restoreNow_uart (c : LoadClass) (s : State) :
    ((s.restoreNow c).links.get .p).sent = (s.links.get .p).sent ∧
      ((s.restoreNow c).links.get .t).sent = (s.links.get .t).sent := by
  unfold State.restoreNow; (try dsimp only); (repeat' split) <;> simp

@[simp] theorem State.allocReset_frame  (s : State) :
    (s.allocReset).pending = s.pending ∧ (s.allocReset).phase = s.phase ∧
      (s.allocReset).mu = s.mu ∧ (s.allocReset).prev = s.prev ∧
      (s.allocReset).acct = s.acct ∧ (s.allocReset).chg = s.chg ∧
      (s.allocReset).set = s.set ∧ (s.allocReset).inForce = s.inForce ∧ (s.allocReset).reg = s.reg ∧
      (s.allocReset).clim = s.clim ∧ (s.allocReset).water = s.water ∧
      (s.allocReset).wind = s.wind ∧ (s.allocReset).can = s.can ∧
      (s.allocReset).vehicle = s.vehicle ∧ (s.allocReset).store = s.store ∧
      (s.allocReset).handling = s.handling := by
  simp [State.allocReset]

@[simp] theorem State.allocReset_lk  (s : State) (k : Link) :
    ((s.allocReset).links.get k).live = (s.links.get k).live ∧ ((s.allocReset).links.get k).timer = (s.links.get k).timer ∧
      ((s.allocReset).links.get k).shortTaken = (s.links.get k).shortTaken ∧ ((s.allocReset).links.get k).longTaken = (s.links.get k).longTaken ∧
      ((s.allocReset).links.get k).shortN = (s.links.get k).shortN ∧ ((s.allocReset).links.get k).longN = (s.links.get k).longN ∧
      ((s.allocReset).links.get k).rxQueue = (s.links.get k).rxQueue ∧ ((s.allocReset).links.get k).part = (s.links.get k).part ∧
      ((s.allocReset).links.get k).batch = (s.links.get k).batch ∧ ((s.allocReset).links.get k).snapshot = (s.links.get k).snapshot ∧
      ((s.allocReset).links.get k).mask = (s.links.get k).mask ∧ ((s.allocReset).links.get k).echo = (s.links.get k).echo := by
  simp [State.allocReset]

@[simp] theorem State.allocReset_uart  (s : State) :
    ((s.allocReset).links.get .p).sent = (s.links.get .p).sent ∧
      ((s.allocReset).links.get .t).sent = (s.links.get .t).sent := by
  simp [State.allocReset]

/-! ### Lighting -/

@[simp] theorem State.fadeChannel_frame (n : Fin 8) (s : State) :
    (s.fadeChannel n).pending = s.pending ∧ (s.fadeChannel n).phase = s.phase ∧
      (s.fadeChannel n).mu = s.mu ∧ (s.fadeChannel n).prev = s.prev ∧
      (s.fadeChannel n).acct = s.acct ∧ (s.fadeChannel n).chg = s.chg ∧
      (s.fadeChannel n).set = s.set ∧ (s.fadeChannel n).inForce = s.inForce ∧ (s.fadeChannel n).tab = s.tab ∧
      (s.fadeChannel n).test = s.test ∧ (s.fadeChannel n).reg = s.reg ∧
      (s.fadeChannel n).alloc = s.alloc ∧ (s.fadeChannel n).clim = s.clim ∧
      (s.fadeChannel n).water = s.water ∧ (s.fadeChannel n).mot = s.mot ∧
      (s.fadeChannel n).wind = s.wind ∧ (s.fadeChannel n).links = s.links ∧
      (s.fadeChannel n).can = s.can ∧ (s.fadeChannel n).vehicle = s.vehicle ∧
      (s.fadeChannel n).log = s.log ∧ (s.fadeChannel n).store = s.store ∧
      (s.fadeChannel n).handling = s.handling := by
  unfold State.fadeChannel; (try dsimp only); (repeat' split) <;> simp

@[simp] theorem State.lightStep1_frame  (s : State) :
    (s.lightStep1).pending = s.pending ∧ (s.lightStep1).phase = s.phase ∧
      (s.lightStep1).mu = s.mu ∧ (s.lightStep1).prev = s.prev ∧
      (s.lightStep1).acct = s.acct ∧ (s.lightStep1).chg = s.chg ∧
      (s.lightStep1).set = s.set ∧ (s.lightStep1).inForce = s.inForce ∧ (s.lightStep1).tab = s.tab ∧
      (s.lightStep1).test = s.test ∧ (s.lightStep1).reg = s.reg ∧
      (s.lightStep1).alloc = s.alloc ∧ (s.lightStep1).clim = s.clim ∧
      (s.lightStep1).water = s.water ∧ (s.lightStep1).mot = s.mot ∧
      (s.lightStep1).wind = s.wind ∧ (s.lightStep1).links = s.links ∧
      (s.lightStep1).can = s.can ∧ (s.lightStep1).vehicle = s.vehicle ∧
      (s.lightStep1).log = s.log ∧ (s.lightStep1).store = s.store ∧
      (s.lightStep1).handling = s.handling := by
  exact ⟨foldl_keeps (State.pending) _ (fun _ _ => by simp) _ _,
    foldl_keeps (State.phase) _ (fun _ _ => by simp) _ _,
    foldl_keeps (State.mu) _ (fun _ _ => by simp) _ _,
    foldl_keeps (State.prev) _ (fun _ _ => by simp) _ _,
    foldl_keeps (State.acct) _ (fun _ _ => by simp) _ _,
    foldl_keeps (State.chg) _ (fun _ _ => by simp) _ _,
    foldl_keeps (State.set) _ (fun _ _ => by simp) _ _,
    foldl_keeps (State.inForce) _ (fun _ _ => by simp) _ _,
    foldl_keeps (State.tab) _ (fun _ _ => by simp) _ _,
    foldl_keeps (State.test) _ (fun _ _ => by simp) _ _,
    foldl_keeps (State.reg) _ (fun _ _ => by simp) _ _,
    foldl_keeps (State.alloc) _ (fun _ _ => by simp) _ _,
    foldl_keeps (State.clim) _ (fun _ _ => by simp) _ _,
    foldl_keeps (State.water) _ (fun _ _ => by simp) _ _,
    foldl_keeps (State.mot) _ (fun _ _ => by simp) _ _,
    foldl_keeps (State.wind) _ (fun _ _ => by simp) _ _,
    foldl_keeps (State.links) _ (fun _ _ => by simp) _ _,
    foldl_keeps (State.can) _ (fun _ _ => by simp) _ _,
    foldl_keeps (State.vehicle) _ (fun _ _ => by simp) _ _,
    foldl_keeps (State.log) _ (fun _ _ => by simp) _ _,
    foldl_keeps (State.store) _ (fun _ _ => by simp) _ _,
    foldl_keeps (State.handling) _ (fun _ _ => by simp) _ _⟩

@[simp] theorem State.courtesy_frame  (s : State) :
    (s.courtesy).pending = s.pending ∧ (s.courtesy).phase = s.phase ∧
      (s.courtesy).mu = s.mu ∧ (s.courtesy).prev = s.prev ∧
      (s.courtesy).acct = s.acct ∧ (s.courtesy).chg = s.chg ∧
      (s.courtesy).set = s.set ∧ (s.courtesy).inForce = s.inForce ∧ (s.courtesy).test = s.test ∧
      (s.courtesy).alloc = s.alloc ∧ (s.courtesy).mot = s.mot ∧
      (s.courtesy).wind = s.wind ∧ (s.courtesy).can = s.can ∧
      (s.courtesy).vehicle = s.vehicle ∧ (s.courtesy).log = s.log ∧
      (s.courtesy).store = s.store ∧ (s.courtesy).handling = s.handling := by
  exact ⟨foldl_keeps_mem (State.pending) _ _ (fun b _ t => by split <;> simp) _,
    foldl_keeps_mem (State.phase) _ _ (fun b _ t => by split <;> simp) _,
    foldl_keeps_mem (State.mu) _ _ (fun b _ t => by split <;> simp) _,
    foldl_keeps_mem (State.prev) _ _ (fun b _ t => by split <;> simp) _,
    foldl_keeps_mem (State.acct) _ _ (fun b _ t => by split <;> simp) _,
    foldl_keeps_mem (State.chg) _ _ (fun b _ t => by split <;> simp) _,
    foldl_keeps_mem (State.set) _ _ (fun b _ t => by split <;> simp) _,
    foldl_keeps_mem (State.inForce) _ _ (fun b _ t => by split <;> simp) _,
    foldl_keeps_mem (State.test) _ _ (fun b _ t => by split <;> simp) _,
    foldl_keeps_mem (State.alloc) _ _ (fun b _ t => by split <;> simp) _,
    foldl_keeps_mem (State.mot) _ _ (fun b _ t => by split <;> simp) _,
    foldl_keeps_mem (State.wind) _ _ (fun b _ t => by split <;> simp) _,
    foldl_keeps_mem (State.can) _ _ (fun b _ t => by split <;> simp) _,
    foldl_keeps_mem (State.vehicle) _ _ (fun b _ t => by split <;> simp) _,
    foldl_keeps_mem (State.log) _ _ (fun b _ t => by split <;> simp) _,
    foldl_keeps_mem (State.store) _ _ (fun b _ t => by split <;> simp) _,
    foldl_keeps_mem (State.handling) _ _ (fun b _ t => by split <;> simp) _⟩

@[simp] theorem State.courtesy_lk  (s : State) (k : Link) :
    ((s.courtesy).links.get k).live = (s.links.get k).live ∧ ((s.courtesy).links.get k).timer = (s.links.get k).timer ∧
      ((s.courtesy).links.get k).shortTaken = (s.links.get k).shortTaken ∧ ((s.courtesy).links.get k).longTaken = (s.links.get k).longTaken ∧
      ((s.courtesy).links.get k).shortN = (s.links.get k).shortN ∧ ((s.courtesy).links.get k).longN = (s.links.get k).longN ∧
      ((s.courtesy).links.get k).rxQueue = (s.links.get k).rxQueue ∧ ((s.courtesy).links.get k).part = (s.links.get k).part ∧
      ((s.courtesy).links.get k).batch = (s.links.get k).batch ∧ ((s.courtesy).links.get k).snapshot = (s.links.get k).snapshot ∧
      ((s.courtesy).links.get k).mask = (s.links.get k).mask ∧ ((s.courtesy).links.get k).echo = (s.links.get k).echo := by
  exact ⟨foldl_keeps_mem (fun u : State => (u.links.get k).live) _ _ (fun b _ t => by split <;> simp) _,
    foldl_keeps_mem (fun u : State => (u.links.get k).timer) _ _ (fun b _ t => by split <;> simp) _,
    foldl_keeps_mem (fun u : State => (u.links.get k).shortTaken) _ _ (fun b _ t => by split <;> simp) _,
    foldl_keeps_mem (fun u : State => (u.links.get k).longTaken) _ _ (fun b _ t => by split <;> simp) _,
    foldl_keeps_mem (fun u : State => (u.links.get k).shortN) _ _ (fun b _ t => by split <;> simp) _,
    foldl_keeps_mem (fun u : State => (u.links.get k).longN) _ _ (fun b _ t => by split <;> simp) _,
    foldl_keeps_mem (fun u : State => (u.links.get k).rxQueue) _ _ (fun b _ t => by split <;> simp) _,
    foldl_keeps_mem (fun u : State => (u.links.get k).part) _ _ (fun b _ t => by split <;> simp) _,
    foldl_keeps_mem (fun u : State => (u.links.get k).batch) _ _ (fun b _ t => by split <;> simp) _,
    foldl_keeps_mem (fun u : State => (u.links.get k).snapshot) _ _ (fun b _ t => by split <;> simp) _,
    foldl_keeps_mem (fun u : State => (u.links.get k).mask) _ _ (fun b _ t => by split <;> simp) _,
    foldl_keeps_mem (fun u : State => (u.links.get k).echo) _ _ (fun b _ t => by split <;> simp) _⟩

@[simp] theorem State.courtesy_uart  (s : State) :
    ((s.courtesy).links.get .p).sent = (s.links.get .p).sent ∧
      ((s.courtesy).links.get .t).sent = (s.links.get .t).sent := by
  exact ⟨foldl_keeps_mem (fun u : State => (u.links.get .p).sent) _ _ (fun b _ t => by split <;> simp) _,
    foldl_keeps_mem (fun u : State => (u.links.get .t).sent) _ _ (fun b _ t => by split <;> simp) _⟩

@[simp] theorem State.lightStep2_frame  (s : State) :
    (s.lightStep2).pending = s.pending ∧ (s.lightStep2).phase = s.phase ∧
      (s.lightStep2).mu = s.mu ∧ (s.lightStep2).prev = s.prev ∧
      (s.lightStep2).acct = s.acct ∧ (s.lightStep2).chg = s.chg ∧
      (s.lightStep2).set = s.set ∧ (s.lightStep2).inForce = s.inForce ∧ (s.lightStep2).test = s.test ∧
      (s.lightStep2).alloc = s.alloc ∧ (s.lightStep2).mot = s.mot ∧
      (s.lightStep2).wind = s.wind ∧ (s.lightStep2).can = s.can ∧
      (s.lightStep2).vehicle = s.vehicle ∧ (s.lightStep2).log = s.log ∧
      (s.lightStep2).store = s.store ∧ (s.lightStep2).handling = s.handling := by
  unfold State.lightStep2; (try dsimp only); (repeat' split) <;> simp

@[simp] theorem State.lightStep2_lk  (s : State) (k : Link) :
    ((s.lightStep2).links.get k).live = (s.links.get k).live ∧ ((s.lightStep2).links.get k).timer = (s.links.get k).timer ∧
      ((s.lightStep2).links.get k).shortTaken = (s.links.get k).shortTaken ∧ ((s.lightStep2).links.get k).longTaken = (s.links.get k).longTaken ∧
      ((s.lightStep2).links.get k).shortN = (s.links.get k).shortN ∧ ((s.lightStep2).links.get k).longN = (s.links.get k).longN ∧
      ((s.lightStep2).links.get k).rxQueue = (s.links.get k).rxQueue ∧ ((s.lightStep2).links.get k).part = (s.links.get k).part ∧
      ((s.lightStep2).links.get k).batch = (s.links.get k).batch ∧ ((s.lightStep2).links.get k).snapshot = (s.links.get k).snapshot ∧
      ((s.lightStep2).links.get k).mask = (s.links.get k).mask ∧ ((s.lightStep2).links.get k).echo = (s.links.get k).echo := by
  unfold State.lightStep2; (try dsimp only); (repeat' split) <;> simp

@[simp] theorem State.lightStep2_uart  (s : State) :
    ((s.lightStep2).links.get .p).sent = (s.links.get .p).sent ∧
      ((s.lightStep2).links.get .t).sent = (s.links.get .t).sent := by
  unfold State.lightStep2; (try dsimp only); (repeat' split) <;> simp

@[simp] theorem State.lightingSweep_frame  (s : State) :
    (s.lightingSweep).pending = s.pending ∧ (s.lightingSweep).phase = s.phase ∧
      (s.lightingSweep).mu = s.mu ∧ (s.lightingSweep).prev = s.prev ∧
      (s.lightingSweep).acct = s.acct ∧ (s.lightingSweep).chg = s.chg ∧
      (s.lightingSweep).set = s.set ∧ (s.lightingSweep).inForce = s.inForce ∧ (s.lightingSweep).test = s.test ∧
      (s.lightingSweep).alloc = s.alloc ∧ (s.lightingSweep).mot = s.mot ∧
      (s.lightingSweep).wind = s.wind ∧ (s.lightingSweep).can = s.can ∧
      (s.lightingSweep).vehicle = s.vehicle ∧ (s.lightingSweep).log = s.log ∧
      (s.lightingSweep).store = s.store ∧ (s.lightingSweep).handling = s.handling := by
  unfold State.lightingSweep; (try dsimp only); (repeat' split) <;> simp

@[simp] theorem State.lightingSweep_lk  (s : State) (k : Link) :
    ((s.lightingSweep).links.get k).live = (s.links.get k).live ∧ ((s.lightingSweep).links.get k).timer = (s.links.get k).timer ∧
      ((s.lightingSweep).links.get k).shortTaken = (s.links.get k).shortTaken ∧ ((s.lightingSweep).links.get k).longTaken = (s.links.get k).longTaken ∧
      ((s.lightingSweep).links.get k).shortN = (s.links.get k).shortN ∧ ((s.lightingSweep).links.get k).longN = (s.links.get k).longN ∧
      ((s.lightingSweep).links.get k).rxQueue = (s.links.get k).rxQueue ∧ ((s.lightingSweep).links.get k).part = (s.links.get k).part ∧
      ((s.lightingSweep).links.get k).batch = (s.links.get k).batch ∧ ((s.lightingSweep).links.get k).snapshot = (s.links.get k).snapshot ∧
      ((s.lightingSweep).links.get k).mask = (s.links.get k).mask ∧ ((s.lightingSweep).links.get k).echo = (s.links.get k).echo := by
  unfold State.lightingSweep; (try dsimp only); (repeat' split) <;> simp

@[simp] theorem State.lightingSweep_uart  (s : State) :
    ((s.lightingSweep).links.get .p).sent = (s.links.get .p).sent ∧
      ((s.lightingSweep).links.get .t).sent = (s.links.get .t).sent := by
  unfold State.lightingSweep; (try dsimp only); (repeat' split) <;> simp

@[simp] theorem State.moveStepLight_frame (a b : Fin 8) (s : State) :
    (s.moveStepLight a b).pending = s.pending ∧ (s.moveStepLight a b).phase = s.phase ∧
      (s.moveStepLight a b).mu = s.mu ∧ (s.moveStepLight a b).prev = s.prev ∧
      (s.moveStepLight a b).acct = s.acct ∧ (s.moveStepLight a b).chg = s.chg ∧
      (s.moveStepLight a b).set = s.set ∧ (s.moveStepLight a b).inForce = s.inForce ∧ (s.moveStepLight a b).test = s.test ∧
      (s.moveStepLight a b).alloc = s.alloc ∧ (s.moveStepLight a b).mot = s.mot ∧
      (s.moveStepLight a b).wind = s.wind ∧ (s.moveStepLight a b).can = s.can ∧
      (s.moveStepLight a b).vehicle = s.vehicle ∧ (s.moveStepLight a b).log = s.log ∧
      (s.moveStepLight a b).store = s.store ∧ (s.moveStepLight a b).handling = s.handling := by
  unfold State.moveStepLight; (try dsimp only); (repeat' split) <;> simp

@[simp] theorem State.moveStepLight_lk (a b : Fin 8) (s : State) (k : Link) :
    ((s.moveStepLight a b).links.get k).live = (s.links.get k).live ∧ ((s.moveStepLight a b).links.get k).timer = (s.links.get k).timer ∧
      ((s.moveStepLight a b).links.get k).shortTaken = (s.links.get k).shortTaken ∧ ((s.moveStepLight a b).links.get k).longTaken = (s.links.get k).longTaken ∧
      ((s.moveStepLight a b).links.get k).shortN = (s.links.get k).shortN ∧ ((s.moveStepLight a b).links.get k).longN = (s.links.get k).longN ∧
      ((s.moveStepLight a b).links.get k).rxQueue = (s.links.get k).rxQueue ∧ ((s.moveStepLight a b).links.get k).part = (s.links.get k).part ∧
      ((s.moveStepLight a b).links.get k).batch = (s.links.get k).batch ∧ ((s.moveStepLight a b).links.get k).snapshot = (s.links.get k).snapshot ∧
      ((s.moveStepLight a b).links.get k).mask = (s.links.get k).mask ∧ ((s.moveStepLight a b).links.get k).echo = (s.links.get k).echo := by
  unfold State.moveStepLight; (try dsimp only); (repeat' split) <;> simp

@[simp] theorem State.moveStepLight_uart (a b : Fin 8) (s : State) :
    ((s.moveStepLight a b).links.get .p).sent = (s.links.get .p).sent ∧
      ((s.moveStepLight a b).links.get .t).sent = (s.links.get .t).sent := by
  unfold State.moveStepLight; (try dsimp only); (repeat' split) <;> simp

/-! ### Sweep -/

theorem mem_defaultOrder (b : SweepBlock) : b ∈ defaultOrder := by cases b <;> decide

/-- Log 3: every block acts at a sweep. -/
theorem mem_normalOrder (order : List SweepBlock) (b : SweepBlock) : b ∈ normalOrder order := by
  by_cases h : b ∈ order <;> simp [normalOrder, h, mem_defaultOrder]

theorem nodup_eraseDups {α : Type} [DecidableEq α] : ∀ (n : Nat) (l : List α), l.length ≤ n → l.eraseDups.Nodup := by
  intro n
  induction n with
  | zero => intro l h; cases l <;> simp_all
  | succ n ih =>
    intro l h
    cases l with
    | nil => simp
    | cons a l =>
      rw [List.eraseDups_cons, List.nodup_cons]
      refine ⟨by simp, ih _ ?_⟩
      exact Nat.le_trans (List.length_filter_le _ l) (by simpa using h)

/-- Log 3: no block acts twice at a sweep. -/
theorem nodup_normalOrder (order : List SweepBlock) : (normalOrder order).Nodup := by
  refine List.nodup_append.mpr
    ⟨nodup_eraseDups _ order (Nat.le_refl _), List.Pairwise.filter _ (by decide), fun a ha b hb => ?_⟩
  rintro rfl
  simp_all
@[simp] theorem State.publishConditions_frame  (s : State) :
    (s.publishConditions).pending = s.pending ∧ (s.publishConditions).phase = s.phase ∧
      (s.publishConditions).mu = s.mu ∧ (s.publishConditions).prev = s.prev ∧
      (s.publishConditions).acct = s.acct ∧ (s.publishConditions).chg = s.chg ∧
      (s.publishConditions).set = s.set ∧ (s.publishConditions).inForce = s.inForce ∧ (s.publishConditions).test = s.test ∧
      (s.publishConditions).reg = s.reg ∧ (s.publishConditions).alloc = s.alloc ∧
      (s.publishConditions).clim = s.clim ∧ (s.publishConditions).water = s.water ∧
      (s.publishConditions).mot = s.mot ∧ (s.publishConditions).wind = s.wind ∧
      (s.publishConditions).links = s.links ∧ (s.publishConditions).can = s.can ∧
      (s.publishConditions).vehicle = s.vehicle ∧ (s.publishConditions).log = s.log ∧
      (s.publishConditions).store = s.store ∧ (s.publishConditions).handling = s.handling := by
  simp [State.publishConditions]

@[simp] theorem State.measure_frame (m : Sweep) (s : State) :
    (s.measure m).pending = s.pending ∧ (s.measure m).phase = s.phase ∧
      (s.measure m).acct = s.acct ∧ (s.measure m).set = s.set ∧
      (s.measure m).tab = s.tab ∧ (s.measure m).test = s.test ∧
      (s.measure m).reg = s.reg ∧ (s.measure m).alloc = s.alloc ∧
      (s.measure m).clim = s.clim ∧ (s.measure m).water = s.water ∧
      (s.measure m).mot = s.mot ∧ (s.measure m).wind = s.wind ∧
      (s.measure m).light = s.light ∧ (s.measure m).links = s.links ∧
      (s.measure m).can = s.can ∧ (s.measure m).vehicle = s.vehicle ∧
      (s.measure m).log = s.log ∧ (s.measure m).store = s.store ∧
      (s.measure m).handling = s.handling := by
  simp [State.measure]

@[simp] theorem State.passTime_frame  (s : State) :
    (s.passTime).pending = s.pending ∧ (s.passTime).phase = s.phase ∧
      (s.passTime).mu = s.mu ∧ (s.passTime).prev = s.prev ∧
      (s.passTime).acct = s.acct ∧ (s.passTime).chg = s.chg ∧
      (s.passTime).set = s.set ∧ (s.passTime).inForce = s.inForce ∧ (s.passTime).tab = s.tab ∧
      (s.passTime).test = s.test ∧ (s.passTime).reg = s.reg ∧
      (s.passTime).alloc = s.alloc ∧ (s.passTime).clim = s.clim ∧
      (s.passTime).water = s.water ∧ (s.passTime).mot = s.mot ∧
      (s.passTime).wind = s.wind ∧ (s.passTime).light = s.light ∧
      (s.passTime).can = s.can ∧ (s.passTime).log = s.log ∧
      (s.passTime).store = s.store ∧ (s.passTime).handling = s.handling := by
  simp [State.passTime]

@[simp] theorem State.publish_frame (m : Sweep) (s : State) :
    (s.publish m).pending = s.pending ∧ (s.publish m).phase = s.phase ∧
      (s.publish m).acct = s.acct ∧ (s.publish m).set = s.set ∧
      (s.publish m).test = s.test ∧ (s.publish m).reg = s.reg ∧
      (s.publish m).alloc = s.alloc ∧ (s.publish m).clim = s.clim ∧
      (s.publish m).water = s.water ∧ (s.publish m).mot = s.mot ∧
      (s.publish m).wind = s.wind ∧ (s.publish m).can = s.can ∧
      (s.publish m).log = s.log ∧ (s.publish m).store = s.store ∧
      (s.publish m).handling = s.handling := by
  simp [State.publish]

@[simp] theorem State.runBlock_frame (b : SweepBlock) (s : State) :
    (s.runBlock b).pending = s.pending ∧ (s.runBlock b).phase = s.phase ∧
      (s.runBlock b).mu = s.mu ∧ (s.runBlock b).prev = s.prev ∧
      (s.runBlock b).set = s.set ∧ (s.runBlock b).wind = s.wind ∧
      (s.runBlock b).can = s.can ∧ (s.runBlock b).vehicle = s.vehicle ∧
      (s.runBlock b).store = s.store ∧ (s.runBlock b).handling = s.handling := by
  cases b <;> simp [State.runBlock]

@[simp] theorem State.runBlock_lk (b : SweepBlock) (s : State) (k : Link) :
    ((s.runBlock b).links.get k).live = (s.links.get k).live ∧ ((s.runBlock b).links.get k).timer = (s.links.get k).timer ∧
      ((s.runBlock b).links.get k).shortTaken = (s.links.get k).shortTaken ∧ ((s.runBlock b).links.get k).longTaken = (s.links.get k).longTaken ∧
      ((s.runBlock b).links.get k).shortN = (s.links.get k).shortN ∧ ((s.runBlock b).links.get k).longN = (s.links.get k).longN ∧
      ((s.runBlock b).links.get k).rxQueue = (s.links.get k).rxQueue ∧ ((s.runBlock b).links.get k).part = (s.links.get k).part ∧
      ((s.runBlock b).links.get k).batch = (s.links.get k).batch ∧ ((s.runBlock b).links.get k).snapshot = (s.links.get k).snapshot ∧
      ((s.runBlock b).links.get k).mask = (s.links.get k).mask ∧ ((s.runBlock b).links.get k).echo = (s.links.get k).echo := by
  cases b <;> simp [State.runBlock]

@[simp] theorem State.runBlock_uart (b : SweepBlock) (s : State) :
    ((s.runBlock b).links.get .p).sent = (s.links.get .p).sent ∧
      ((s.runBlock b).links.get .t).sent = (s.links.get .t).sent := by
  cases b <;> simp [State.runBlock]

@[simp] theorem State.runBlocks_frame (bs : List SweepBlock) (s : State) :
    (bs.foldl State.runBlock s).pending = s.pending ∧ (bs.foldl State.runBlock s).phase = s.phase ∧
      (bs.foldl State.runBlock s).mu = s.mu ∧ (bs.foldl State.runBlock s).prev = s.prev ∧
      (bs.foldl State.runBlock s).set = s.set ∧ (bs.foldl State.runBlock s).wind = s.wind ∧
      (bs.foldl State.runBlock s).can = s.can ∧ (bs.foldl State.runBlock s).vehicle = s.vehicle ∧
      (bs.foldl State.runBlock s).store = s.store ∧ (bs.foldl State.runBlock s).handling = s.handling := by
  exact ⟨foldl_keeps (State.pending) _ (fun _ _ => by simp) _ _,
    foldl_keeps (State.phase) _ (fun _ _ => by simp) _ _,
    foldl_keeps (State.mu) _ (fun _ _ => by simp) _ _,
    foldl_keeps (State.prev) _ (fun _ _ => by simp) _ _,
    foldl_keeps (State.set) _ (fun _ _ => by simp) _ _,
    foldl_keeps (State.wind) _ (fun _ _ => by simp) _ _,
    foldl_keeps (State.can) _ (fun _ _ => by simp) _ _,
    foldl_keeps (State.vehicle) _ (fun _ _ => by simp) _ _,
    foldl_keeps (State.store) _ (fun _ _ => by simp) _ _,
    foldl_keeps (State.handling) _ (fun _ _ => by simp) _ _⟩

@[simp] theorem State.runBlocks_lk (bs : List SweepBlock) (s : State) (k : Link) :
    ((bs.foldl State.runBlock s).links.get k).live = (s.links.get k).live ∧ ((bs.foldl State.runBlock s).links.get k).timer = (s.links.get k).timer ∧
      ((bs.foldl State.runBlock s).links.get k).shortTaken = (s.links.get k).shortTaken ∧ ((bs.foldl State.runBlock s).links.get k).longTaken = (s.links.get k).longTaken ∧
      ((bs.foldl State.runBlock s).links.get k).shortN = (s.links.get k).shortN ∧ ((bs.foldl State.runBlock s).links.get k).longN = (s.links.get k).longN ∧
      ((bs.foldl State.runBlock s).links.get k).rxQueue = (s.links.get k).rxQueue ∧ ((bs.foldl State.runBlock s).links.get k).part = (s.links.get k).part ∧
      ((bs.foldl State.runBlock s).links.get k).batch = (s.links.get k).batch ∧ ((bs.foldl State.runBlock s).links.get k).snapshot = (s.links.get k).snapshot ∧
      ((bs.foldl State.runBlock s).links.get k).mask = (s.links.get k).mask ∧ ((bs.foldl State.runBlock s).links.get k).echo = (s.links.get k).echo := by
  exact ⟨foldl_keeps (fun u : State => (u.links.get k).live) _ (fun _ _ => by simp) _ _,
    foldl_keeps (fun u : State => (u.links.get k).timer) _ (fun _ _ => by simp) _ _,
    foldl_keeps (fun u : State => (u.links.get k).shortTaken) _ (fun _ _ => by simp) _ _,
    foldl_keeps (fun u : State => (u.links.get k).longTaken) _ (fun _ _ => by simp) _ _,
    foldl_keeps (fun u : State => (u.links.get k).shortN) _ (fun _ _ => by simp) _ _,
    foldl_keeps (fun u : State => (u.links.get k).longN) _ (fun _ _ => by simp) _ _,
    foldl_keeps (fun u : State => (u.links.get k).rxQueue) _ (fun _ _ => by simp) _ _,
    foldl_keeps (fun u : State => (u.links.get k).part) _ (fun _ _ => by simp) _ _,
    foldl_keeps (fun u : State => (u.links.get k).batch) _ (fun _ _ => by simp) _ _,
    foldl_keeps (fun u : State => (u.links.get k).snapshot) _ (fun _ _ => by simp) _ _,
    foldl_keeps (fun u : State => (u.links.get k).mask) _ (fun _ _ => by simp) _ _,
    foldl_keeps (fun u : State => (u.links.get k).echo) _ (fun _ _ => by simp) _ _⟩

@[simp] theorem State.runBlocks_uart (bs : List SweepBlock) (s : State) :
    ((bs.foldl State.runBlock s).links.get .p).sent = (s.links.get .p).sent ∧
      ((bs.foldl State.runBlock s).links.get .t).sent = (s.links.get .t).sent := by
  exact ⟨foldl_keeps (fun u : State => (u.links.get .p).sent) _ (fun _ _ => by simp) _ _,
    foldl_keeps (fun u : State => (u.links.get .t).sent) _ (fun _ _ => by simp) _ _⟩

/-- R4: only the account's own step of a sweep changes the account. -/
theorem State.runBlock_acct {b : SweepBlock} (h : b ≠ .account) (s : State) : (s.runBlock b).acct = s.acct := by
  cases b <;> simp_all [State.runBlock]

/-- Only charge control, the account's report of a full bank and the warmer's trip change charge control; the input
current is none of theirs. -/
theorem State.handCompletion_iIn (s : State) : s.handCompletion.chg.iIn = s.chg.iIn := by
  unfold State.handCompletion; split <;> rfl

/-! ### Links -/

/-- R159: what the link supervisor takes of new settings changes the links alone. -/
theorem State.applyLinks_frame (was : Settings) (cs : List Change) (s : State) :
    s.applyLinks was cs = { s with links := (s.applyLinks was cs).links } := by
  unfold State.applyLinks
  refine foldl_inv (fun t : State => t = { s with links := t.links }) _ _ (fun l _ t h => ?_) _
    (foldl_inv (fun t : State => t = { s with links := t.links }) _ _ (fun l _ t h => ?_) _ rfl)
  · split
    · exact h
    · rw [h]; cases l <;> rfl
  · rw [h]; rfl

@[simp] theorem State.restartTimer_frame (l : Link) (s : State) :
    (s.restartTimer l).pending = s.pending ∧ (s.restartTimer l).phase = s.phase ∧
      (s.restartTimer l).mu = s.mu ∧ (s.restartTimer l).prev = s.prev ∧
      (s.restartTimer l).acct = s.acct ∧ (s.restartTimer l).chg = s.chg ∧
      (s.restartTimer l).set = s.set ∧ (s.restartTimer l).inForce = s.inForce ∧ (s.restartTimer l).tab = s.tab ∧
      (s.restartTimer l).test = s.test ∧ (s.restartTimer l).reg = s.reg ∧
      (s.restartTimer l).alloc = s.alloc ∧ (s.restartTimer l).clim = s.clim ∧
      (s.restartTimer l).water = s.water ∧ (s.restartTimer l).mot = s.mot ∧
      (s.restartTimer l).wind = s.wind ∧ (s.restartTimer l).light = s.light ∧
      (s.restartTimer l).can = s.can ∧ (s.restartTimer l).vehicle = s.vehicle ∧
      (s.restartTimer l).log = s.log ∧ (s.restartTimer l).store = s.store ∧
      (s.restartTimer l).handling = s.handling := by
  unfold State.restartTimer; (try dsimp only); (repeat' split) <;> simp

@[simp] theorem State.shortExpiry_frame (l : Link) (s : State) :
    (s.shortExpiry l).pending = s.pending ∧ (s.shortExpiry l).phase = s.phase ∧
      (s.shortExpiry l).mu = s.mu ∧ (s.shortExpiry l).prev = s.prev ∧
      (s.shortExpiry l).acct = s.acct ∧ (s.shortExpiry l).chg = s.chg ∧
      (s.shortExpiry l).set = s.set ∧ (s.shortExpiry l).inForce = s.inForce ∧ (s.shortExpiry l).tab = s.tab ∧
      (s.shortExpiry l).test = s.test ∧ (s.shortExpiry l).reg = s.reg ∧
      (s.shortExpiry l).alloc = s.alloc ∧ (s.shortExpiry l).clim = s.clim ∧
      (s.shortExpiry l).water = s.water ∧ (s.shortExpiry l).mot = s.mot ∧
      (s.shortExpiry l).wind = s.wind ∧ (s.shortExpiry l).light = s.light ∧
      (s.shortExpiry l).can = s.can ∧ (s.shortExpiry l).vehicle = s.vehicle ∧
      (s.shortExpiry l).store = s.store ∧ (s.shortExpiry l).handling = s.handling := by
  unfold State.shortExpiry; (try dsimp only); (repeat' split) <;> simp

@[simp] theorem State.lapse_frame (l : Link) (s : State) :
    (s.lapse l).pending = s.pending ∧ (s.lapse l).phase = s.phase ∧
      (s.lapse l).mu = s.mu ∧ (s.lapse l).prev = s.prev ∧
      (s.lapse l).acct = s.acct ∧ (s.lapse l).chg = s.chg ∧
      (s.lapse l).set = s.set ∧ (s.lapse l).inForce = s.inForce ∧ (s.lapse l).test = s.test ∧
      (s.lapse l).alloc = s.alloc ∧ (s.lapse l).mot = s.mot ∧
      (s.lapse l).wind = s.wind ∧ (s.lapse l).can = s.can ∧
      (s.lapse l).vehicle = s.vehicle ∧ (s.lapse l).store = s.store ∧
      (s.lapse l).handling = s.handling := by
  simp [State.lapse]

@[simp] theorem State.longExpiry_frame (l : Link) (s : State) :
    (s.longExpiry l).pending = s.pending ∧ (s.longExpiry l).phase = s.phase ∧
      (s.longExpiry l).mu = s.mu ∧ (s.longExpiry l).prev = s.prev ∧
      (s.longExpiry l).acct = s.acct ∧ (s.longExpiry l).chg = s.chg ∧
      (s.longExpiry l).set = s.set ∧ (s.longExpiry l).inForce = s.inForce ∧ (s.longExpiry l).test = s.test ∧
      (s.longExpiry l).alloc = s.alloc ∧ (s.longExpiry l).mot = s.mot ∧
      (s.longExpiry l).wind = s.wind ∧ (s.longExpiry l).can = s.can ∧
      (s.longExpiry l).vehicle = s.vehicle ∧ (s.longExpiry l).store = s.store ∧
      (s.longExpiry l).handling = s.handling := by
  unfold State.longExpiry; (try dsimp only); (repeat' split) <;> simp

@[simp] theorem State.vehicleChanged_frame (a b : State) :
    (State.vehicleChanged a b).pending = b.pending ∧ (State.vehicleChanged a b).phase = b.phase ∧
      (State.vehicleChanged a b).mu = b.mu ∧ (State.vehicleChanged a b).prev = b.prev ∧
      (State.vehicleChanged a b).acct = b.acct ∧ (State.vehicleChanged a b).chg = b.chg ∧
      (State.vehicleChanged a b).set = b.set ∧ (State.vehicleChanged a b).inForce = b.inForce ∧ (State.vehicleChanged a b).test = b.test ∧
      (State.vehicleChanged a b).alloc = b.alloc ∧ (State.vehicleChanged a b).wind = b.wind ∧
      (State.vehicleChanged a b).can = b.can ∧ (State.vehicleChanged a b).vehicle = b.vehicle ∧
      (State.vehicleChanged a b).store = b.store ∧ (State.vehicleChanged a b).handling = b.handling := by
  unfold State.vehicleChanged; dsimp only; split <;> simp

@[simp] theorem State.setSpeed_frame (v : Option Nat) (s : State) :
    (s.setSpeed v).pending = s.pending ∧ (s.setSpeed v).phase = s.phase ∧
      (s.setSpeed v).mu = s.mu ∧ (s.setSpeed v).prev = s.prev ∧
      (s.setSpeed v).acct = s.acct ∧ (s.setSpeed v).chg = s.chg ∧
      (s.setSpeed v).set = s.set ∧ (s.setSpeed v).inForce = s.inForce ∧ (s.setSpeed v).test = s.test ∧
      (s.setSpeed v).alloc = s.alloc ∧ (s.setSpeed v).wind = s.wind ∧
      (s.setSpeed v).can = s.can ∧ (s.setSpeed v).store = s.store ∧
      (s.setSpeed v).handling = s.handling := by
  simp [State.setSpeed]

@[simp] theorem State.enqueue_frame (l : Link) (f : Frame) (s : State) :
    (s.enqueue l f).pending = s.pending ∧ (s.enqueue l f).phase = s.phase ∧
      (s.enqueue l f).mu = s.mu ∧ (s.enqueue l f).prev = s.prev ∧
      (s.enqueue l f).acct = s.acct ∧ (s.enqueue l f).chg = s.chg ∧
      (s.enqueue l f).set = s.set ∧ (s.enqueue l f).inForce = s.inForce ∧ (s.enqueue l f).tab = s.tab ∧
      (s.enqueue l f).test = s.test ∧ (s.enqueue l f).reg = s.reg ∧
      (s.enqueue l f).alloc = s.alloc ∧ (s.enqueue l f).clim = s.clim ∧
      (s.enqueue l f).water = s.water ∧ (s.enqueue l f).mot = s.mot ∧
      (s.enqueue l f).wind = s.wind ∧ (s.enqueue l f).light = s.light ∧
      (s.enqueue l f).can = s.can ∧ (s.enqueue l f).vehicle = s.vehicle ∧
      (s.enqueue l f).store = s.store ∧ (s.enqueue l f).handling = s.handling := by
  unfold State.enqueue; (try dsimp only); (repeat' split) <;> simp

@[simp] theorem State.badCrc_frame (l : Link) (s : State) :
    (s.badCrc l).pending = s.pending ∧ (s.badCrc l).phase = s.phase ∧
      (s.badCrc l).mu = s.mu ∧ (s.badCrc l).prev = s.prev ∧
      (s.badCrc l).acct = s.acct ∧ (s.badCrc l).chg = s.chg ∧
      (s.badCrc l).set = s.set ∧ (s.badCrc l).inForce = s.inForce ∧ (s.badCrc l).tab = s.tab ∧
      (s.badCrc l).test = s.test ∧ (s.badCrc l).reg = s.reg ∧
      (s.badCrc l).alloc = s.alloc ∧ (s.badCrc l).clim = s.clim ∧
      (s.badCrc l).water = s.water ∧ (s.badCrc l).mot = s.mot ∧
      (s.badCrc l).wind = s.wind ∧ (s.badCrc l).light = s.light ∧
      (s.badCrc l).can = s.can ∧ (s.badCrc l).vehicle = s.vehicle ∧
      (s.badCrc l).store = s.store ∧ (s.badCrc l).handling = s.handling := by
  simp [State.badCrc]

@[simp] theorem State.frameComplete_frame (l : Link) (p : List Byte) (c : Byte) (s : State) :
    (s.frameComplete l p c).pending = s.pending ∧ (s.frameComplete l p c).phase = s.phase ∧
      (s.frameComplete l p c).mu = s.mu ∧ (s.frameComplete l p c).prev = s.prev ∧
      (s.frameComplete l p c).acct = s.acct ∧ (s.frameComplete l p c).chg = s.chg ∧
      (s.frameComplete l p c).set = s.set ∧ (s.frameComplete l p c).inForce = s.inForce ∧ (s.frameComplete l p c).tab = s.tab ∧
      (s.frameComplete l p c).test = s.test ∧ (s.frameComplete l p c).reg = s.reg ∧
      (s.frameComplete l p c).alloc = s.alloc ∧ (s.frameComplete l p c).clim = s.clim ∧
      (s.frameComplete l p c).water = s.water ∧ (s.frameComplete l p c).mot = s.mot ∧
      (s.frameComplete l p c).wind = s.wind ∧ (s.frameComplete l p c).light = s.light ∧
      (s.frameComplete l p c).can = s.can ∧ (s.frameComplete l p c).vehicle = s.vehicle ∧
      (s.frameComplete l p c).store = s.store ∧ (s.frameComplete l p c).handling = s.handling := by
  unfold State.frameComplete; (try dsimp only); (repeat' split) <;> simp

@[simp] theorem State.uartByte_frame (l : Link) (b : Byte) (s : State) :
    (s.uartByte l b).pending = s.pending ∧ (s.uartByte l b).phase = s.phase ∧
      (s.uartByte l b).mu = s.mu ∧ (s.uartByte l b).prev = s.prev ∧
      (s.uartByte l b).acct = s.acct ∧ (s.uartByte l b).chg = s.chg ∧
      (s.uartByte l b).set = s.set ∧ (s.uartByte l b).inForce = s.inForce ∧ (s.uartByte l b).tab = s.tab ∧
      (s.uartByte l b).test = s.test ∧ (s.uartByte l b).reg = s.reg ∧
      (s.uartByte l b).alloc = s.alloc ∧ (s.uartByte l b).clim = s.clim ∧
      (s.uartByte l b).water = s.water ∧ (s.uartByte l b).mot = s.mot ∧
      (s.uartByte l b).wind = s.wind ∧ (s.uartByte l b).light = s.light ∧
      (s.uartByte l b).can = s.can ∧ (s.uartByte l b).vehicle = s.vehicle ∧
      (s.uartByte l b).store = s.store ∧ (s.uartByte l b).handling = s.handling := by
  unfold State.uartByte; (try dsimp only); (repeat' split) <;> simp

@[simp] theorem State.canFrame_frame (i : BitVec 29) (r : Bool) (d : List Byte) (s : State) :
    (s.canFrame i r d).pending = s.pending ∧ (s.canFrame i r d).phase = s.phase ∧
      (s.canFrame i r d).mu = s.mu ∧ (s.canFrame i r d).prev = s.prev ∧
      (s.canFrame i r d).acct = s.acct ∧ (s.canFrame i r d).chg = s.chg ∧
      (s.canFrame i r d).set = s.set ∧ (s.canFrame i r d).inForce = s.inForce ∧ (s.canFrame i r d).tab = s.tab ∧
      (s.canFrame i r d).test = s.test ∧ (s.canFrame i r d).reg = s.reg ∧
      (s.canFrame i r d).alloc = s.alloc ∧ (s.canFrame i r d).clim = s.clim ∧
      (s.canFrame i r d).water = s.water ∧ (s.canFrame i r d).mot = s.mot ∧
      (s.canFrame i r d).wind = s.wind ∧ (s.canFrame i r d).light = s.light ∧
      (s.canFrame i r d).can = s.can ∧ (s.canFrame i r d).vehicle = s.vehicle ∧
      (s.canFrame i r d).store = s.store ∧ (s.canFrame i r d).handling = s.handling := by
  unfold State.canFrame; (try dsimp only); (repeat' split) <;> simp

@[simp] theorem State.canDelivered_frame  (s : State) :
    (s.canDelivered).pending = s.pending ∧ (s.canDelivered).phase = s.phase ∧
      (s.canDelivered).mu = s.mu ∧ (s.canDelivered).prev = s.prev ∧
      (s.canDelivered).acct = s.acct ∧ (s.canDelivered).chg = s.chg ∧
      (s.canDelivered).set = s.set ∧ (s.canDelivered).inForce = s.inForce ∧ (s.canDelivered).tab = s.tab ∧
      (s.canDelivered).test = s.test ∧ (s.canDelivered).reg = s.reg ∧
      (s.canDelivered).alloc = s.alloc ∧ (s.canDelivered).clim = s.clim ∧
      (s.canDelivered).water = s.water ∧ (s.canDelivered).mot = s.mot ∧
      (s.canDelivered).wind = s.wind ∧ (s.canDelivered).light = s.light ∧
      (s.canDelivered).vehicle = s.vehicle ∧ (s.canDelivered).log = s.log ∧
      (s.canDelivered).store = s.store ∧ (s.canDelivered).handling = s.handling := by
  unfold State.canDelivered; (try dsimp only); (repeat' split) <;> simp

@[simp] theorem State.sendReply_frame (l : Link) (g : Frame) (s : State) :
    (s.sendReply l g).pending = s.pending ∧ (s.sendReply l g).phase = s.phase ∧
      (s.sendReply l g).mu = s.mu ∧ (s.sendReply l g).prev = s.prev ∧
      (s.sendReply l g).acct = s.acct ∧ (s.sendReply l g).chg = s.chg ∧
      (s.sendReply l g).set = s.set ∧ (s.sendReply l g).inForce = s.inForce ∧ (s.sendReply l g).tab = s.tab ∧
      (s.sendReply l g).test = s.test ∧ (s.sendReply l g).reg = s.reg ∧
      (s.sendReply l g).alloc = s.alloc ∧ (s.sendReply l g).clim = s.clim ∧
      (s.sendReply l g).water = s.water ∧ (s.sendReply l g).mot = s.mot ∧
      (s.sendReply l g).wind = s.wind ∧ (s.sendReply l g).light = s.light ∧
      (s.sendReply l g).vehicle = s.vehicle ∧ (s.sendReply l g).log = s.log ∧
      (s.sendReply l g).store = s.store ∧ (s.sendReply l g).handling = s.handling := by
  cases l <;> simp [State.sendReply]

@[simp] theorem State.returnFromLapsed_frame (l : Link) (s : State) :
    (s.returnFromLapsed l).pending = s.pending ∧ (s.returnFromLapsed l).phase = s.phase ∧
      (s.returnFromLapsed l).mu = s.mu ∧ (s.returnFromLapsed l).prev = s.prev ∧
      (s.returnFromLapsed l).acct = s.acct ∧ (s.returnFromLapsed l).chg = s.chg ∧
      (s.returnFromLapsed l).set = s.set ∧ (s.returnFromLapsed l).inForce = s.inForce ∧ (s.returnFromLapsed l).tab = s.tab ∧
      (s.returnFromLapsed l).test = s.test ∧ (s.returnFromLapsed l).reg = s.reg ∧
      (s.returnFromLapsed l).alloc = s.alloc ∧ (s.returnFromLapsed l).clim = s.clim ∧
      (s.returnFromLapsed l).water = s.water ∧ (s.returnFromLapsed l).mot = s.mot ∧
      (s.returnFromLapsed l).wind = s.wind ∧ (s.returnFromLapsed l).light = s.light ∧
      (s.returnFromLapsed l).can = s.can ∧ (s.returnFromLapsed l).vehicle = s.vehicle ∧
      (s.returnFromLapsed l).log = s.log ∧ (s.returnFromLapsed l).store = s.store ∧
      (s.returnFromLapsed l).handling = s.handling := by
  simp [State.returnFromLapsed]

@[simp] theorem State.validFrame_frame (l : Link) (f : Frame) (s : State) :
    (s.validFrame l f).pending = s.pending ∧ (s.validFrame l f).phase = s.phase ∧
      (s.validFrame l f).mu = s.mu ∧ (s.validFrame l f).prev = s.prev ∧
      (s.validFrame l f).acct = s.acct ∧ (s.validFrame l f).chg = s.chg ∧
      (s.validFrame l f).set = s.set ∧ (s.validFrame l f).inForce = s.inForce ∧ (s.validFrame l f).tab = s.tab ∧
      (s.validFrame l f).test = s.test ∧ (s.validFrame l f).reg = s.reg ∧
      (s.validFrame l f).alloc = s.alloc ∧ (s.validFrame l f).clim = s.clim ∧
      (s.validFrame l f).water = s.water ∧ (s.validFrame l f).mot = s.mot ∧
      (s.validFrame l f).wind = s.wind ∧ (s.validFrame l f).light = s.light ∧
      (s.validFrame l f).can = s.can ∧ (s.validFrame l f).vehicle = s.vehicle ∧
      (s.validFrame l f).log = s.log ∧ (s.validFrame l f).store = s.store ∧
      (s.validFrame l f).handling = s.handling := by
  unfold State.validFrame; (try dsimp only); (repeat' split) <;> simp

@[simp] theorem State.reportRefusal_frame (r : Reply) (s : State) :
    (s.reportRefusal r).pending = s.pending ∧ (s.reportRefusal r).phase = s.phase ∧
      (s.reportRefusal r).mu = s.mu ∧ (s.reportRefusal r).prev = s.prev ∧
      (s.reportRefusal r).acct = s.acct ∧ (s.reportRefusal r).chg = s.chg ∧
      (s.reportRefusal r).set = s.set ∧ (s.reportRefusal r).inForce = s.inForce ∧ (s.reportRefusal r).tab = s.tab ∧
      (s.reportRefusal r).test = s.test ∧ (s.reportRefusal r).reg = s.reg ∧
      (s.reportRefusal r).alloc = s.alloc ∧ (s.reportRefusal r).clim = s.clim ∧
      (s.reportRefusal r).water = s.water ∧ (s.reportRefusal r).mot = s.mot ∧
      (s.reportRefusal r).wind = s.wind ∧ (s.reportRefusal r).light = s.light ∧
      (s.reportRefusal r).can = s.can ∧ (s.reportRefusal r).vehicle = s.vehicle ∧
      (s.reportRefusal r).store = s.store ∧ (s.reportRefusal r).handling = s.handling := by
  unfold State.reportRefusal; (try dsimp only); (repeat' split) <;> simp

@[simp] theorem State.endHandling_frame  (s : State) :
    (s.endHandling).pending = s.pending ∧ (s.endHandling).phase = s.phase ∧
      (s.endHandling).mu = s.mu ∧ (s.endHandling).prev = s.prev ∧
      (s.endHandling).acct = s.acct ∧ (s.endHandling).chg = s.chg ∧
      (s.endHandling).set = s.set ∧ (s.endHandling).inForce = s.inForce ∧ (s.endHandling).tab = s.tab ∧
      (s.endHandling).test = s.test ∧ (s.endHandling).reg = s.reg ∧
      (s.endHandling).alloc = s.alloc ∧ (s.endHandling).clim = s.clim ∧
      (s.endHandling).water = s.water ∧ (s.endHandling).mot = s.mot ∧
      (s.endHandling).wind = s.wind ∧ (s.endHandling).light = s.light ∧
      (s.endHandling).links = s.links ∧ (s.endHandling).vehicle = s.vehicle ∧
      (s.endHandling).log = s.log ∧ (s.endHandling).store = s.store := by
  simp [State.endHandling]

end Sys2Proof.Machine
end

