-- ==== Sys2Proof/Laws/HandOver.lean ====
section
/-!
SUPPORT. What one operation of the register hands to the load table, the climate controller and the water controller.
-/

namespace Sys2Proof.Machine

/-- In a fold over distinct members, what only the step of one member touches is what that step leaves. -/
theorem foldl_one {σ β γ : Type} [DecidableEq β] (g : σ → γ) (f : σ → β → σ) (n : β) (l : List β) (hn : n ∈ l)
    (hd : l.Nodup) (h : ∀ m ∈ l, m ≠ n → ∀ s, g (f s m) = g s) (s : σ) :
    ∃ u, g u = g s ∧ g (l.foldl f s) = g (f u n) := by
  induction l generalizing s with
  | nil => cases hn
  | cons m l ih =>
    rw [List.nodup_cons] at hd
    rw [List.foldl_cons]
    by_cases hm : m = n
    · subst hm
      refine ⟨s, rfl, ?_⟩
      exact foldl_keeps_mem g f l (fun b hb t => h b (List.mem_cons_of_mem _ hb)
        (fun e => hd.1 (e ▸ hb)) t) _
    · have hn' : n ∈ l := by
        rcases List.mem_cons.mp hn with e | e
        · exact absurd e.symm hm
        · exact e
      obtain ⟨u, h1, h2⟩ := ih hn' hd.2 (fun k hk => h k (List.mem_cons_of_mem _ hk)) (f s m)
      exact ⟨u, h1.trans (h m (List.mem_cons_self ..) hm s), h2⟩

theorem regTargets_nodup : regTargets.Nodup := by decide

/-! ### One hand-over -/

/-- Rows other than the one handed to; a mode reaches record 1 or record 0. -/
theorem State.handOn_row {n : Nat} {r : RecNo} (h : recOf n ≠ some r) (h1 : n = 22 → r ≠ 1) (h0 : n = 24 → r ≠ 0)
    (v : Nat × WantedBy) (s : State) : tget (s.handOn n v).tab r = tget s.tab r := by
  unfold State.handOn
  split
  · rename_i e
    have := h1 e
    unfold State.handHeatMode State.heaterModeOff State.heaterOff State.heaterRest State.heaterWait State.heaterCool
      State.setHeater
    dsimp only
    (repeat' split) <;> simp [State.setWanted_row_ne this]
  · split
    · rfl
    · split
      · rename_i e
        have := h0 e
        unfold State.handPumpMode State.pumpEval State.setPump
        (repeat' split) <;> simp [State.setWanted_row_ne this]
      · split
        · rename_i q hq
          exact State.setWanted_row_ne (fun e => h (hq.trans (by rw [e]))) _ _ s
        · rfl

theorem State.setHeater_clim (f : Climate → Climate) (s : State) : (s.setHeater f).clim = f s.clim := by
  simp [State.setHeater]

theorem State.setHeater_row (f : Climate → Climate) (s : State) :
    (tget (s.setHeater f).tab 1).wanted = heaterWanted (f s.clim).heater ∧
      (tget (s.setHeater f).tab 1).wantedBy = .function := by
  have h := State.setWanted_row_self 1 (heaterWanted (f s.clim).heater) .function
    (({ s with clim := f s.clim } : State).raiseIf (decide ((f s.clim).heater ≠ s.clim.heater)) .climate)
  refine ⟨h.1.trans ?_, h.2.1⟩
  cases (f s.clim).heater <;> rfl

/-- R68, R95, R97 to R99: what a hand-over of a heating mode leaves of the climate controller and of record 1. -/
theorem State.handHeatMode_handed (m : HeatMode) (w : WantedBy) (s : State) :
    (s.handHeatMode m w).clim = heatHanded m w s.clim ∧
      (if (heatHanded m w s.clim).heater = s.clim.heater then tget (s.handHeatMode m w).tab 1 = tget s.tab 1
      else (tget (s.handHeatMode m w).tab 1).wanted = (if (heatHanded m w s.clim).heater = .off then 0 else 1000) ∧
        (tget (s.handHeatMode m w).tab 1).wantedBy = .function) := by
  unfold State.handHeatMode heatHanded State.heaterModeOff State.heaterOff State.heaterRest State.heaterCool
  by_cases hm : m = .off
  · rcases e : s.clim.heater with _ | _ | _ | _ | _ | _ <;>
      simp [hm, e, State.setHeater_clim, State.setHeater_row, heaterWanted]
  · simp [hm]

theorem State.setPump_water (p : PumpState) (s : State) :
    (s.setPump p).water = if s.water.pump = p then s.water else { s.water with pump := p, dryTimer := 0 } := by
  unfold State.setPump; split <;> simp

/-- R118: the table as the pump's evaluation reads it. -/
theorem State.pumpTable_eq (s : State) : s.pumpTable = pumpRow s := by
  unfold State.pumpTable pumpRow
  dsimp only
  (repeat' split) <;> simp_all

/-- R118: what an evaluation of the pump leaves of the water controller and of record 0. -/
theorem State.pumpEval_handed (s : State) :
    (s.pumpEval.water =
      if s.water.pump = .dryLock ∨ s.water.pump = pumpRow s then s.water
      else { s.water with pump := pumpRow s, dryTimer := 0 }) ∧
      if s.pumpEval.water.pump = s.water.pump then tget s.pumpEval.tab 0 = tget s.tab 0
      else (tget s.pumpEval.tab 0).wanted = (if s.pumpEval.water.pump = .running then 1000 else 0) ∧
        (tget s.pumpEval.tab 0).wantedBy = .function := by
  unfold State.pumpEval
  rw [State.pumpTable_eq]
  by_cases hd : s.water.pump = .dryLock
  · simp [hd]
  · rw [if_neg hd]
    by_cases he : s.water.pump = pumpRow s
    · have h : s.setPump (pumpRow s) = s := if_pos he
      rw [h]
      simp [← he]
    · have h := State.setWanted_row_self 0 (if pumpRow s = .running then 1000 else 0) .function
        (({ s with water := { s.water with pump := pumpRow s, dryTimer := 0 } } : State).raise .water)
      have hw := State.setPump_water (pumpRow s) s
      rw [if_neg he] at hw
      have hr : (if pumpRow s = .running then 1000 else 0) =
          storeLevel 0 (if pumpRow s = .running then 1000 else 0) := by split <;> rfl
      refine ⟨by simp [hd, he, hw], ?_⟩
      have ht : s.setPump (pumpRow s) = _ := if_neg he
      rw [hw]
      dsimp only
      rw [if_neg (fun e => he e.symm), hr, ht]
      exact ⟨h.1, h.2.1⟩

/-- R68, R118: what a hand-over of a pump mode leaves of the water controller and of record 0. -/
theorem State.handPumpMode_handed (m : PumpMode) (w : WantedBy) (s : State) :
    (s.handPumpMode m w).water = pumpHanded m w s ∧
      (if (pumpHanded m w s).pump = s.water.pump then tget (s.handPumpMode m w).tab 0 = tget s.tab 0
      else (tget (s.handPumpMode m w).tab 0).wanted = (if (pumpHanded m w s).pump = .running then 1000 else 0) ∧
        (tget (s.handPumpMode m w).tab 0).wantedBy = .function) := by
  have h := State.pumpEval_handed { s with water := { s.water with mode := m, modeBy := w } }
  have e : (s.handPumpMode m w).water = pumpHanded m w s := h.1
  refine ⟨e, ?_⟩
  rw [← e]
  exact h.2

/-! ### One operation -/

theorem recOf_val (r : RecNo) : recOf r.val = some r := by simp [recOf]

theorem recOf_eq_some {n : Nat} {r : RecNo} : recOf n = some r ↔ n = r.val := by
  unfold recOf
  split
  · rename_i h
    constructor
    · intro e; rw [← Option.some.inj e]
    · intro e; subst e; rfl
  · rename_i h
    constructor
    · intro e; cases e
    · intro e; exact absurd r.isLt (e ▸ h)

theorem handStep_row {r : RecNo} (hr : isRegisterRec r.val = true) (cfg : Settings) (old es : List Entry) (m : Nat)
    (hm : m ≠ r.val) (s : State) :
    tget (if resolveIn cfg es m = resolveIn cfg old m then s else s.handOn m (resolveIn cfg es m)).tab r =
      tget s.tab r := by
  split
  · rfl
  · refine State.handOn_row (fun e => hm (recOf_eq_some.mp e)) (fun _ e => ?_) (fun _ e => ?_) _ s <;>
      (subst e; simp [isRegisterRec] at hr)

theorem mem_regTargets_of_register (r : RecNo) (hr : isRegisterRec r.val = true) : r.val ∈ regTargets := by
  revert r; decide

theorem State.handOn_record (r : RecNo) (v : Nat × WantedBy) (s : State) :
    s.handOn r.val v = s.setWanted r v.1 v.2 := by
  have h : r.val ≠ 22 ∧ r.val ≠ 23 ∧ r.val ≠ 24 := by have := r.isLt; omega
  simp [State.handOn, h, recOf_val]

/-! ### The hand-overs of one operation -/

/-- The hand-over of one target, where its resolved value has changed. -/
def State.handIf (was : Settings) (old es : List Entry) (cfg : Settings) (s : State) (n : Nat) : State :=
  if resolveIn cfg es n = resolveIn was old n then s else s.handOn n (resolveIn cfg es n)

/-- The REGISTER records among the targets. -/
def recTargets : List Nat := [3, 4, 5, 6, 7, 8, 9, 11, 12, 13, 14, 15, 16, 17, 18, 19]

/-- R68: the records first, then the modes in the order of their numbers. -/
theorem State.handChanged_eq (was : Settings) (old es : List Entry) (cfg : Settings) (s : State) :
    s.handChanged was old es cfg =
      (((recTargets.foldl (State.handIf was old es cfg) s).handIf was old es cfg 22).handIf was old es cfg 23).handIf
        was old es cfg 24 := rfl

/-- A record's hand-over reaches neither a mode nor an event set. -/
theorem State.handIf_rec {n : Nat} (hn : n ∈ recTargets) (was : Settings) (old es : List Entry) (cfg : Settings)
    (s : State) :
    (s.handIf was old es cfg n).clim = s.clim ∧ (s.handIf was old es cfg n).water = s.water ∧
      (s.handIf was old es cfg n).links = s.links ∧ (s.handIf was old es cfg n).phase = s.phase ∧
      (s.handIf was old es cfg n).inForce = s.inForce ∧
      tget (s.handIf was old es cfg n).tab 0 = tget s.tab 0 ∧ tget (s.handIf was old es cfg n).tab 1 = tget s.tab 1 := by
  have h : n ≠ 22 ∧ n ≠ 23 ∧ n ≠ 24 ∧ n ≠ 0 ∧ n ≠ 1 := by revert hn n; decide
  unfold State.handIf
  split
  · exact ⟨rfl, rfl, rfl, rfl, rfl, rfl, rfl⟩
  · refine ⟨?_, ?_, ?_, by simp, by simp,
      State.handOn_row (fun e => h.2.2.2.1 (recOf_eq_some.mp e)) (fun e => absurd e h.1) (fun e => absurd e h.2.2.1) _ s,
      State.handOn_row (fun e => h.2.2.2.2 (recOf_eq_some.mp e)) (fun e => absurd e h.1) (fun e => absurd e h.2.2.1) _ s⟩ <;>
      · unfold State.handOn
        rw [if_neg h.1, if_neg h.2.1, if_neg h.2.2.1]
        split <;> simp

/-- The records' part of one operation. -/
theorem State.handRecs_frame (was : Settings) (old es : List Entry) (cfg : Settings) (s : State) :
    let t := recTargets.foldl (State.handIf was old es cfg) s
    t.clim = s.clim ∧ t.water = s.water ∧ t.links = s.links ∧ t.phase = s.phase ∧ t.inForce = s.inForce ∧
      tget t.tab 0 = tget s.tab 0 ∧ tget t.tab 1 = tget s.tab 1 := by
  refine ⟨foldl_keeps_mem State.clim _ _ ?_ s, foldl_keeps_mem State.water _ _ ?_ s, foldl_keeps_mem State.links _ _ ?_ s,
    foldl_keeps_mem State.phase _ _ ?_ s, foldl_keeps_mem State.inForce _ _ ?_ s,
    foldl_keeps_mem (fun t : State => tget t.tab 0) _ _ ?_ s, foldl_keeps_mem (fun t : State => tget t.tab 1) _ _ ?_ s⟩ <;>
    intro n hn u <;> have h := State.handIf_rec hn was old es cfg u
  · exact h.1
  · exact h.2.1
  · exact h.2.2.1
  · exact h.2.2.2.1
  · exact h.2.2.2.2.1
  · exact h.2.2.2.2.2.1
  · exact h.2.2.2.2.2.2

/-- The event of a change of heater state (R108). -/
theorem State.setHeater_pending (f : Climate → Climate) (s : State) (h : s.phase ≠ .resetLow) (k : Link) :
    ((s.setHeater f).links.get k).pending =
      (s.links.get k).pending ||| if (f s.clim).heater = s.clim.heater then 0 else Event.climate.bit := by
  unfold State.setHeater
  simp only [State.setWanted_frame, State.raiseIf]
  by_cases e : (f s.clim).heater = s.clim.heater <;> simp [e, h]

theorem State.handHeatMode_pending (m : HeatMode) (w : WantedBy) (s : State) (h : s.phase ≠ .resetLow) (k : Link) :
    ((s.handHeatMode m w).links.get k).pending =
      (s.links.get k).pending |||
        if (heatHanded m w s.clim).heater = s.clim.heater then 0 else Event.climate.bit := by
  unfold State.handHeatMode heatHanded State.heaterModeOff State.heaterOff State.heaterRest State.heaterCool
  by_cases hm : m = .off
  · rcases e : s.clim.heater with _ | _ | _ | _ | _ | _ <;>
      simp [hm, e, State.setHeater_clim, State.setHeater_pending, h]
  · simp [hm]

/-- The event of a change of pump state (R118). -/
theorem State.pumpEval_pending (s : State) (h : s.phase ≠ .resetLow) (k : Link) :
    (s.pumpEval.links.get k).pending =
      (s.links.get k).pending ||| if s.pumpEval.water.pump = s.water.pump then 0 else Event.water.bit := by
  unfold State.pumpEval
  split
  · simp
  · unfold State.setPump
    by_cases e : s.water.pump = s.pumpTable
    · simp [← e]
    · rw [if_neg e]
      simp only [State.setWanted_frame, State.raise_pending, State.raise_frame]
      have e' : ¬s.pumpTable = s.water.pump := fun x => e x.symm
      simp [h, e']

/-- The hand-over of the heating mode. -/
theorem State.handIf_heat (was : Settings) (old es : List Entry) (cfg : Settings) (s : State) :
    let t := s.handIf was old es cfg 22
    (t.clim =
      if resolveIn cfg es 22 = resolveIn was old 22 then s.clim
      else heatHanded (heatModeOf (resolveIn cfg es 22).1) (resolveIn cfg es 22).2 s.clim) ∧
      (if t.clim.heater = s.clim.heater then tget t.tab 1 = tget s.tab 1
      else (tget t.tab 1).wanted = (if t.clim.heater = .off then 0 else 1000) ∧ (tget t.tab 1).wantedBy = .function) ∧
      t.water = s.water ∧ t.inForce = s.inForce ∧ t.phase = s.phase ∧ tget t.tab 0 = tget s.tab 0 ∧
      (s.phase ≠ .resetLow → ∀ k, (t.links.get k).pending =
        (s.links.get k).pending ||| if t.clim.heater = s.clim.heater then 0 else Event.climate.bit) := by
  unfold State.handIf
  by_cases e : resolveIn cfg es 22 = resolveIn was old 22
  · simp [e]
  · have hh : s.handOn 22 (resolveIn cfg es 22) =
      s.handHeatMode (heatModeOf (resolveIn cfg es 22).1) (resolveIn cfg es 22).2 := rfl
    rw [if_neg e, if_neg e]
    have h0 : tget (s.handOn 22 (resolveIn cfg es 22)).tab 0 = tget s.tab 0 :=
      State.handOn_row (by decide) (fun _ => by decide) (fun x => by simp at x) _ s
    rw [hh] at h0 ⊢
    have h := State.handHeatMode_handed (heatModeOf (resolveIn cfg es 22).1) (resolveIn cfg es 22).2 s
    have hp := State.handHeatMode_pending (heatModeOf (resolveIn cfg es 22).1) (resolveIn cfg es 22).2 s
    obtain ⟨h1, h2⟩ := h
    rw [← h1] at h2 hp
    exact ⟨h1, h2, by simp, by simp, by simp, h0, hp⟩

/-- The hand-over of the setpoint. -/
theorem State.handIf_setpoint (was : Settings) (old es : List Entry) (cfg : Settings) (s : State) :
    s.handIf was old es cfg 23 =
      { s with clim :=
        if resolveIn cfg es 23 = resolveIn was old 23 then s.clim
        else { s.clim with setpoint := (resolveIn cfg es 23).1, setpointBy := (resolveIn cfg es 23).2 } } := by
  unfold State.handIf
  split <;> rfl

/-- The hand-over of the pump mode. -/
theorem State.handIf_pump (was : Settings) (old es : List Entry) (cfg : Settings) (s : State) :
    let t := s.handIf was old es cfg 24
    (t.water =
      if resolveIn cfg es 24 = resolveIn was old 24 then s.water
      else pumpHanded (pumpModeOf (resolveIn cfg es 24).1) (resolveIn cfg es 24).2 s) ∧
      (if t.water.pump = s.water.pump then tget t.tab 0 = tget s.tab 0
      else (tget t.tab 0).wanted = (if t.water.pump = .running then 1000 else 0) ∧
        (tget t.tab 0).wantedBy = .function) ∧
      t.clim = s.clim ∧ tget t.tab 1 = tget s.tab 1 ∧
      (s.phase ≠ .resetLow → ∀ k, (t.links.get k).pending =
        (s.links.get k).pending ||| if t.water.pump = s.water.pump then 0 else Event.water.bit) := by
  unfold State.handIf
  by_cases e : resolveIn cfg es 24 = resolveIn was old 24
  · simp [e]
  · have hh : s.handOn 24 (resolveIn cfg es 24) =
      s.handPumpMode (pumpModeOf (resolveIn cfg es 24).1) (resolveIn cfg es 24).2 := rfl
    rw [if_neg e, if_neg e]
    have h1 : tget (s.handOn 24 (resolveIn cfg es 24)).tab 1 = tget s.tab 1 :=
      State.handOn_row (by decide) (fun x => by simp at x) (fun _ => by decide) _ s
    rw [hh] at h1 ⊢
    have h := State.handPumpMode_handed (pumpModeOf (resolveIn cfg es 24).1) (resolveIn cfg es 24).2 s
    obtain ⟨h2, h3⟩ := h
    rw [← h2] at h3
    have hp := State.pumpEval_pending { s with
      water := { s.water with mode := pumpModeOf (resolveIn cfg es 24).1, modeBy := (resolveIn cfg es 24).2 } }
    exact ⟨h2, h3, by simp, h1, hp⟩

theorem heatHanded_setpoint (m : HeatMode) (w : WantedBy) (c : Climate) :
    (heatHanded m w c).setpoint = c.setpoint ∧ (heatHanded m w c).setpointBy = c.setpointBy := by
  unfold heatHanded
  dsimp only
  (repeat' split) <;> exact ⟨rfl, rfl⟩

/-- R68: the modes after the hand-overs of one operation, and the events of the heater and the pump. -/
theorem State.handChanged_modes (es : List Entry) (cfg : Settings) (s : State) :
    let t := ({ s with reg := es } : State).handChanged s.set s.reg es cfg
    ModesHandedOn cfg s t ∧
      (s.phase ≠ .resetLow → ∀ k, (t.links.get k).pending =
        ((s.links.get k).pending ||| if t.clim.heater = s.clim.heater then 0 else Event.climate.bit) |||
          if t.water.pump = s.water.pump then 0 else Event.water.bit) := by
  have hreg : (({ s with reg := es } : State).handChanged s.set s.reg es cfg).reg = es := by simp
  unfold ModesHandedOn
  simp only [State.row_eq]
  rw [hreg, State.handChanged_eq]
  have a := State.handRecs_frame s.set s.reg es cfg { s with reg := es }
  generalize recTargets.foldl (State.handIf s.set s.reg es cfg) { s with reg := es } = u at a ⊢
  have b := State.handIf_heat s.set s.reg es cfg u
  generalize u.handIf s.set s.reg es cfg 22 = v at b ⊢
  have hw : ∀ w : State, w.water = s.water → w.inForce = s.inForce → ∀ m y, pumpHanded m y w = pumpHanded m y s := by
    intro w h1 h2 m y
    unfold pumpHanded pumpRow
    simp only [h1, h2]
  have hx := State.handIf_setpoint s.set s.reg es cfg v
  generalize v.handIf s.set s.reg es cfg 23 = x at hx ⊢
  have c := State.handIf_pump s.set s.reg es cfg x
  generalize x.handIf s.set s.reg es cfg 24 = t at c ⊢
  obtain ⟨a1, a2, a3, a4, a5, a6, a7⟩ := a
  obtain ⟨b1, b2, b3, b4, b5, b6, b7⟩ := b
  obtain ⟨c1, c2, c3, c4, c5⟩ := c
  dsimp only at a1 a2 a3 a4 a5 a6 a7
  have x1 : x.water = s.water := by rw [hx]; exact b3.trans a2
  have x2 : x.inForce = s.inForce := by rw [hx]; exact b4.trans a5
  have x3 : x.phase = s.phase := by rw [hx]; exact b5.trans a4
  have x4 : x.tab = v.tab := by rw [hx]
  have x5 : x.links = v.links := by rw [hx]
  have x6 : x.clim.heater = v.clim.heater := by rw [hx]; dsimp only; split <;> rfl
  have hh : t.clim.heater = v.clim.heater := by rw [c3, x6]
  rw [a1] at b1 b2 b7
  refine ⟨⟨?_, ?_, ?_, ?_, ?_⟩, ?_⟩
  · rw [c3, hx]
    dsimp only
    rw [b1]
    split <;> split <;> rfl
  · rw [c3, hx]
    dsimp only
    rw [b1]
    split <;> split <;> simp [heatHanded_setpoint]
  · rw [c1, hw x x1 x2, x1]
  · rw [hh, c4, x4, ← a7]; exact b2
  · rw [x1, x4, b6, a6] at c2; exact c2
  · intro hp k
    have p1 := c5 (x3 ▸ hp) k
    rw [x5, b7 (a4 ▸ hp) k, a3, x1] at p1
    rw [hh]
    exact p1

/-- What the hand-overs of one operation do to the receivers, from the state `s` that holds the old list. -/
theorem State.handChanged_handed (es : List Entry) (s : State) :
    HandedOn s (({ s with reg := es } : State).handChanged s.set s.reg es s.set) := by
  have hreg : (({ s with reg := es } : State).handChanged s.set s.reg es s.set).reg = es := by simp
  refine ⟨fun r hr => ?_, (State.handChanged_modes es s.set s).1, ?_⟩
  · rw [hreg]
    obtain ⟨u, hu, hv⟩ := foldl_one (fun t : State => tget t.tab r)
      (fun (u : State) n =>
        if resolveIn s.set es n = resolveIn s.set s.reg n then u else u.handOn n (resolveIn s.set es n))
      r.val regTargets (mem_regTargets_of_register r hr) regTargets_nodup
      (fun m _ hm u => handStep_row hr s.set s.reg es m hm u) { s with reg := es }
    change tget (({ s with reg := es } : State).handChanged s.set s.reg es s.set).tab r = _ at hv
    dsimp only at hu hv ⊢
    split
    · rename_i e
      rw [if_pos e] at hv
      exact hv.trans hu
    · rename_i e
      rw [if_neg e, State.handOn_record] at hv
      have := State.setWanted_row_self r (resolveIn s.set es r.val).1 (resolveIn s.set es r.val).2 u
      simp only [State.row_eq]
      rw [hv]
      exact ⟨this.1, this.2.1⟩
  · have row := fun (r : RecNo) (h1 : r ≠ 1) (h0 : r ≠ 0) (hr : r.val ∉ regTargets) =>
      foldl_keeps_mem (fun t : State => tget t.tab r)
        (fun (u : State) n =>
          if resolveIn s.set es n = resolveIn s.set s.reg n then u else u.handOn n (resolveIn s.set es n)) regTargets
        (fun n hn u => by
          split
          · rfl
          · exact State.handOn_row (fun e => hr (recOf_eq_some.mp e ▸ hn)) (fun _ => h1) (fun _ => h0) _ u)
        { s with reg := es }
    exact ⟨row 2 (by decide) (by decide) (by decide), row 10 (by decide) (by decide) (by decide),
      row 20 (by decide) (by decide) (by decide), row 21 (by decide) (by decide) (by decide)⟩

theorem HandedOn.of_fields {s s' t t' : State} (h : HandedOn s t) (h1 : s'.tab = s.tab) (h2 : s'.reg = s.reg)
    (h3 : s'.set = s.set) (h4 : s'.clim = s.clim) (h5 : s'.water = s.water) (h6 : s'.inForce = s.inForce)
    (k1 : t'.tab = t.tab) (k2 : t'.reg = t.reg) (k4 : t'.clim = t.clim) (k5 : t'.water = t.water) : HandedOn s' t' := by
  have hw : ∀ m y, pumpHanded m y s' = pumpHanded m y s := by
    intro m y
    unfold pumpHanded pumpRow
    simp only [h5, h6]
  unfold HandedOn ModesHandedOn at h ⊢
  simp only [State.row_eq] at h ⊢
  rw [h1, h2, h3, h4, hw, h5, k1, k2, k4, k5]
  exact h

/-- R58, R68: one operation of the register. -/
theorem State.regApply_handed (es : List Entry) (os : List Origin) (s : State) : HandedOn s (s.regApply es os) :=
  (State.handChanged_handed es s).of_fields rfl rfl rfl rfl rfl rfl (by simp [State.regApply_handChanged])
    (by simp [State.regApply_handChanged]) (by simp [State.regApply_handChanged])
    (by simp [State.regApply_handChanged])

/-! ### The events of an operation (R70) -/

/-- One link's part of the echo. -/
def State.echoStep (os : List Origin) (s t : State) (l : Link) : State :=
  if os.any fun o => (s.lk l).echo.getLsbD o.no then t.raiseOn l .demand else t

theorem State.echo_eq (os : List Origin) (s : State) :
    s.echo os = State.echoStep os s (State.echoStep os s (State.echoStep os s s .c) .p) .t := rfl

theorem State.echoStep_phase (os : List Origin) (s t : State) (l : Link) :
    (State.echoStep os s t l).phase = t.phase := by
  unfold State.echoStep; split <;> simp

theorem State.echoStep_pending (os : List Origin) (s t : State) (l k : Link) (h : t.phase ≠ .resetLow) :
    ((State.echoStep os s t l).links.get k).pending =
      (t.links.get k).pending |||
        if k = l ∧ (os.any fun o => (s.lk k).echo.getLsbD o.no) = true then Event.demand.bit else 0 := by
  unfold State.echoStep
  by_cases c : (os.any fun o => (s.lk l).echo.getLsbD o.no) = true
  · rw [if_pos c, State.raiseOn_pending]
    by_cases e : k = l
    · rw [if_pos ⟨e, h⟩, if_pos ⟨e, e ▸ c⟩]
    · rw [if_neg (fun x => e x.1), if_neg (fun x => e x.1)]; simp
  · have n : ¬(k = l ∧ (os.any fun o => (s.lk k).echo.getLsbD o.no) = true) := fun x => c (x.1 ▸ x.2)
    rw [if_neg c, if_neg n]
    simp

/-- R70: what the echo sets call for. -/
theorem State.echo_pending (os : List Origin) (s : State) (h : s.phase ≠ .resetLow) (k : Link) :
    ((s.echo os).links.get k).pending =
      (s.links.get k).pending |||
        if (os.any fun o => (s.lk k).echo.getLsbD o.no) = true then Event.demand.bit else 0 := by
  rw [State.echo_eq, State.echoStep_pending _ _ _ _ _ (by simpa [State.echoStep_phase] using h),
    State.echoStep_pending _ _ _ _ _ (by simpa [State.echoStep_phase] using h), State.echoStep_pending _ _ _ _ _ h]
  cases k <;> simp

theorem registerEvents_congr {os : List Origin} {s s' t t' : State} {k : Link} (h : (t'.lk k).echo = (t.lk k).echo)
    (h1 : s'.clim = s.clim) (h2 : s'.water = s.water) (k1 : t'.clim = t.clim) (k2 : t'.water = t.water) :
    registerEvents os s' t' k = registerEvents os s t k := by
  unfold registerEvents; rw [h, h1, h2, k1, k2]

/-- R58, R70, R108, R118: the events of one operation of the register. -/
theorem State.regApply_announced (es : List Entry) (os : List Origin) (s : State) (h : s.phase ≠ .resetLow) :
    Announced os s (s.regApply es os) := by
  intro k
  have m := (State.handChanged_modes es s.set s).2 h k
  unfold registerEvents
  rw [State.regApply_handChanged]
  simp only [State.echo_frame]
  have hk : ((((({ s with reg := es } : State).handChanged s.set s.reg es s.set).echo os).lk k).echo) = (s.lk k).echo :=
    (State.echo_lk ..).2.2.2.2.2.2.2.2.2.2.2.trans (State.handChanged_lk ..).2.2.2.2.2.2.2.2.2.2.2
  rw [hk]
  have e := State.echo_pending os (({ s with reg := es } : State).handChanged s.set s.reg es s.set) (by simpa using h) k
  have he : ((({ s with reg := es } : State).handChanged s.set s.reg es s.set).lk k).echo = (s.lk k).echo :=
    (State.handChanged_lk ..).2.2.2.2.2.2.2.2.2.2.2
  rw [he, m] at e
  refine e.trans ?_
  simp only [State.lk_eq]
  ac_rfl

end Sys2Proof.Machine
end

