-- ==== Sys2Proof/Laws/Image.lean ====
section
/-!
SUPPORT. The settings image: fields taken one by one, and the image of the default settings, which a load accepts.
-/

namespace Sys2Proof.Machine

/-- One field of the image taken on its own. -/
def takeField (x : Nat × Nat × Nat) (field : List Byte) (cfg : Settings) : Option Settings :=
  if x.1 = 0x3D then takeScene x.2.1 field cfg else takeValue x.1 x.2.1 (value3 field) cfg

/-- Taking the concatenation of fields that each leave the settings as they are leaves the settings as they are. -/
theorem takeFields_fixed (f : Nat × Nat × Nat → List Byte) (cfg : Settings) :
    ∀ xs : List (Nat × Nat × Nat), (∀ x ∈ xs, (f x).length = x.2.2 ∧ takeField x (f x) cfg = some cfg) →
      takeFields xs (xs.flatMap f) cfg = some cfg
  | [], _ => rfl
  | x :: xs, h => by
    obtain ⟨hl, ht⟩ := h x (by simp)
    have ih := takeFields_fixed f cfg xs fun y hy => h y (by simp [hy])
    have h1 : (f x ++ xs.flatMap f).take x.2.2 = f x := by rw [← hl]; simp
    have h2 : (f x ++ xs.flatMap f).drop x.2.2 = xs.flatMap f := by rw [← hl]; simp
    simp only [takeFields, List.flatMap_cons, h1, h2]
    unfold takeField at ht
    rw [ht]
    exact ih

/-- The bytes of one field of the image. -/
def fieldBytes (cfg : Settings) (x : Nat × Nat × Nat) : List Byte :=
  if x.1 = 0x3D then ((fin8Of x.2.1).map fun i => sceneBytes (tget cfg.light.scenes i)).getD []
  else bytes3 (settingValue cfg x.1 x.2.1)

theorem settingsBytes_eq_fields (cfg : Settings) : settingsBytes cfg = imageFields.flatMap (fieldBytes cfg) := by
  unfold settingsBytes imageFields
  rw [List.flatMap_assoc]
  congr 1
  funext x
  simp only [codeBytes, List.flatMap_map]
  rfl

theorem default_fields_taken :
    ∀ x ∈ imageFields, (fieldBytes Settings.default x).length = x.2.2 ∧
      takeField x (fieldBytes Settings.default x) Settings.default = some Settings.default := by decide +kernel

theorem default_settingsBytes_length : (settingsBytes Settings.default).length = 995 := by decide +kernel

theorem default_periods_right :
    (fixAllPeriods (Settings.default, false)).map (·.1) = some Settings.default := by decide +kernel

theorem le16_length (v : BitVec 16) : (le16 v).length = 2 := rfl

/-- R167, R168: the load accepts the image of the default settings, and takes those settings from it. -/
theorem default_image_accepted : parseImage (imageOf Settings.default) = some Settings.default := by
  have hb : (imageHeader ++ settingsBytes Settings.default).length = 998 := by
    rw [List.length_append, default_settingsBytes_length]; rfl
  have hl : (imageOf Settings.default).length = 1000 := by
    simp [imageOf, le16_length, default_settingsBytes_length, imageHeader]
  have ht : (imageOf Settings.default).take 998 = imageHeader ++ settingsBytes Settings.default := by
    exact List.take_left' hb
  have hd : (imageOf Settings.default).drop 998 = le16 (crc16 (imageHeader ++ settingsBytes Settings.default)) := by
    exact List.drop_left' hb
  have h3 : (imageOf Settings.default).take 3 = imageHeader := by
    simp [imageOf, imageHeader]
  have h2 : ∀ v : BitVec 16, (le16 v).take 2 = le16 v := fun _ => rfl
  have hf : takeFields imageFields (settingsBytes Settings.default) Settings.default = some Settings.default := by
    rw [settingsBytes_eq_fields]; exact takeFields_fixed _ _ _ default_fields_taken
  have hs : (imageHeader ++ settingsBytes Settings.default).drop 3 = settingsBytes Settings.default := by
    simp [imageHeader]
  unfold parseImage
  simp only [hl, ht, hd, h3, h2, hs, hf]
  rw [if_neg (by simp)]
  exact default_periods_right

end Sys2Proof.Machine
end

