-- ==== Sys2Proof/Laws/PerInstr.lean ====
section
/-!
SUPPORT. One lemma for each command: the kind byte of the frame that carries it (R151), none for a row that is no request.
-/

namespace Sys2Proof.Laws.Framed

open Sys2Proof Sys2Proof.Machine

/-- The kind code of a request row in the table of R151; a frame of no other row has its own kind. -/
def kindOf : Instr → Option Byte
  | .powerOn => none
  | .rstNAssert => none
  | .rstNRelease => none
  | .settingsLoadCompletion _ => none
  | .settingsLoadTimeout => none
  | .sweepCompletion _ _ => none
  | .cutCounterExpiry => none
  | .recoveryCounterExpiry => none
  | .fullDetection => none
  | .altDelayExpiry => none
  | .restore _ => none
  | .overloadTrip _ _ => none
  | .shortCircuit _ _ => none
  | .retryTimerExpiry _ => none
  | .quietTimerExpiry _ => none
  | .selftestSlotEnd _ => none
  | .startTimerExpiry => none
  | .coolDownTimerExpiry => none
  | .dryRunTimerExpiry => none
  | .pauseEnd _ => none
  | .travelTimeout _ => none
  | .stall _ => none
  | .windWindowCompletion _ => none
  | .windStow => none
  | .windLockTimerExpiry => none
  | .oneSecondTimerExpiry => none
  | .shortSilence _ => none
  | .longSilence _ => none
  | .vehicleAgeExpiry => none
  | .uartFrameReceived _ _ _ => none
  | .frameGapTimeout _ => none
  | .canFrameReceived _ _ _ => none
  | .canReplySent => none
  | .unknownKind _ f => some f.kind
  | .place _ _ _ _ _ _ _ => some 0x01
  | .withdraw _ _ _ => some 0x02
  | .withdrawAll _ _ => some 0x03
  | .deploy _ _ _ => some 0x04
  | .stow _ _ _ => some 0x04
  | .halt _ _ _ => some 0x04
  | .extendTo _ _ _ _ => some 0x04
  | .scene _ _ _ _ _ _ => some 0x05
  | .read _ _ _ _ _ => some 0x06
  | .events _ _ _ _ => some 0x07
  | .keepalive _ _ => some 0x08
  | .vehicle _ _ _ => some 0x09
  | .configureStage _ _ _ _ _ => some 0x0A
  | .configure _ _ _ _ _ => some 0x0A
  | .clearLoadRecord _ _ _ => some 0x0B
  | .clearHeater _ _ => some 0x0B
  | .clearPump _ _ => some 0x0B
  | .clearMotion _ _ _ => some 0x0B
  | .clearIncidentGroup _ _ _ => some 0x0B
  | .clearCapture _ _ => some 0x0B
  | .resetDemands _ _ => some 0x0C
  | .resetLoads _ _ => some 0x0C
  | .resetClimate _ _ => some 0x0C
  | .resetMotion _ _ => some 0x0C
  | .resetLinks _ _ => some 0x0C
  | .save _ _ => some 0x0D
  | .saveCompletion _ => none
  | .selftest _ _ => some 0x0E
  | .setCharge _ _ _ => some 0x0F
  | .closeDrain _ _ => some 0x10
  | .uartByteReceived _ _ => none
  | .startUpClockTick => none

/-- The frame of the row has the row's kind. -/
def Statement (i : Instr) : Prop := (requestFrame i).map (fun x => x.2.kind) = kindOf i

theorem powerOn : Statement .powerOn := rfl
theorem rstNAssert : Statement .rstNAssert := rfl
theorem rstNRelease : Statement .rstNRelease := rfl
theorem settingsLoadCompletion (image : List Byte) : Statement (.settingsLoadCompletion image) := rfl
theorem settingsLoadTimeout : Statement .settingsLoadTimeout := rfl
theorem sweepCompletion (m : Sweep) (order : List SweepBlock) : Statement (.sweepCompletion m order) := rfl
theorem cutCounterExpiry : Statement .cutCounterExpiry := rfl
theorem recoveryCounterExpiry : Statement .recoveryCounterExpiry := rfl
theorem fullDetection : Statement .fullDetection := rfl
theorem altDelayExpiry : Statement .altDelayExpiry := rfl
theorem restore (c : LoadClass) : Statement (.restore c) := rfl
theorem overloadTrip (r : RecNo) (m : Nat) : Statement (.overloadTrip r m) := rfl
theorem shortCircuit (r : RecNo) (m : Nat) : Statement (.shortCircuit r m) := rfl
theorem retryTimerExpiry (r : RecNo) : Statement (.retryTimerExpiry r) := rfl
theorem quietTimerExpiry (r : RecNo) : Statement (.quietTimerExpiry r) := rfl
theorem selftestSlotEnd (answered : Bool) : Statement (.selftestSlotEnd answered) := rfl
theorem startTimerExpiry : Statement .startTimerExpiry := rfl
theorem coolDownTimerExpiry : Statement .coolDownTimerExpiry := rfl
theorem dryRunTimerExpiry : Statement .dryRunTimerExpiry := rfl
theorem pauseEnd (d : Device) : Statement (.pauseEnd d) := rfl
theorem travelTimeout (d : Device) : Statement (.travelTimeout d) := rfl
theorem stall (d : Device) : Statement (.stall d) := rfl
theorem windWindowCompletion (pulses : Nat) : Statement (.windWindowCompletion pulses) := rfl
theorem windStow : Statement .windStow := rfl
theorem windLockTimerExpiry : Statement .windLockTimerExpiry := rfl
theorem oneSecondTimerExpiry : Statement .oneSecondTimerExpiry := rfl
theorem shortSilence (l : Link) : Statement (.shortSilence l) := rfl
theorem longSilence (l : Link) : Statement (.longSilence l) := rfl
theorem vehicleAgeExpiry : Statement .vehicleAgeExpiry := rfl
theorem uartFrameReceived (l : Link) (f : Frame) (crc : Byte) : Statement (.uartFrameReceived l f crc) := rfl
theorem frameGapTimeout (l : Link) : Statement (.frameGapTimeout l) := rfl
theorem canFrameReceived (id : BitVec 29) (remote : Bool) (data : List Byte) : Statement (.canFrameReceived id remote data) := rfl
theorem canReplySent : Statement .canReplySent := rfl
theorem unknownKind (l : Link) (f : Frame) : Statement (.unknownKind l f) := rfl
theorem place (l : Link) (tag target : Byte) (level : BitVec 16) (prec hold : BitVec 4) (secs : BitVec 16) : Statement (.place l tag target level prec hold secs) := rfl
theorem withdraw (l : Link) (tag target : Byte) : Statement (.withdraw l tag target) := rfl
theorem withdrawAll (l : Link) (tag : Byte) : Statement (.withdrawAll l tag) := rfl
theorem deploy (l : Link) (tag device : Byte) : Statement (.deploy l tag device) := rfl
theorem stow (l : Link) (tag device : Byte) : Statement (.stow l tag device) := rfl
theorem halt (l : Link) (tag device : Byte) : Statement (.halt l tag device) := rfl
theorem extendTo (l : Link) (tag device : Byte) (p : BitVec 16) : Statement (.extendTo l tag device p) := rfl
theorem scene (l : Link) (tag n : Byte) (prec hold : BitVec 4) (secs : BitVec 16) : Statement (.scene l tag n prec hold secs) := rfl
theorem read (l : Link) (tag item index part : Byte) : Statement (.read l tag item index part) := rfl
theorem events (l : Link) (tag flags : Byte) (mask : BitVec 16) : Statement (.events l tag flags mask) := rfl
theorem keepalive (l : Link) (tag : Byte) : Statement (.keepalive l tag) := rfl
theorem vehicle (l : Link) (tag : Byte) (speed : BitVec 16) : Statement (.vehicle l tag speed) := rfl
theorem configureStage (l : Link) (tag code index : Byte) (value : BitVec 24) : Statement (.configureStage l tag code index value) := rfl
theorem configure (l : Link) (tag code index : Byte) (value : BitVec 24) : Statement (.configure l tag code index value) := rfl
theorem clearLoadRecord (l : Link) (tag index : Byte) : Statement (.clearLoadRecord l tag index) := rfl
theorem clearHeater (l : Link) (tag : Byte) : Statement (.clearHeater l tag) := rfl
theorem clearPump (l : Link) (tag : Byte) : Statement (.clearPump l tag) := rfl
theorem clearMotion (l : Link) (tag index : Byte) : Statement (.clearMotion l tag index) := rfl
theorem clearIncidentGroup (l : Link) (tag index : Byte) : Statement (.clearIncidentGroup l tag index) := rfl
theorem clearCapture (l : Link) (tag : Byte) : Statement (.clearCapture l tag) := rfl
theorem resetDemands (l : Link) (tag : Byte) : Statement (.resetDemands l tag) := rfl
theorem resetLoads (l : Link) (tag : Byte) : Statement (.resetLoads l tag) := rfl
theorem resetClimate (l : Link) (tag : Byte) : Statement (.resetClimate l tag) := rfl
theorem resetMotion (l : Link) (tag : Byte) : Statement (.resetMotion l tag) := rfl
theorem resetLinks (l : Link) (tag : Byte) : Statement (.resetLinks l tag) := rfl
theorem save (l : Link) (tag : Byte) : Statement (.save l tag) := rfl
theorem saveCompletion (readBack : Option (List Byte)) : Statement (.saveCompletion readBack) := rfl
theorem selftest (l : Link) (tag : Byte) : Statement (.selftest l tag) := rfl
theorem setCharge (l : Link) (tag : Byte) (pm : BitVec 16) : Statement (.setCharge l tag pm) := rfl
theorem closeDrain (l : Link) (tag : Byte) : Statement (.closeDrain l tag) := rfl
theorem uartByteReceived (l : Link) (b : Byte) : Statement (.uartByteReceived l b) := rfl
theorem startUpClockTick : Statement .startUpClockTick := rfl

end Sys2Proof.Laws.Framed
end

