-- ==== Sys2Proof/Laws/Serve.lean ====
section
/-!
SUPPORT. A request that is served at once (R155): what its owner starts from, and what is added to what the owner leaves.
-/

namespace Sys2Proof.Machine

/-- The state the owner of a request finds: the frame noted, the silence timer restarted where R157 says so. -/
def State.start (l : Link) (f : Frame) (s : State) : State :=
  ({ s with handling := some (l, f) } : State).validFrame l f

@[simp] theorem State.start_frame (l : Link) (f : Frame) (s : State) :
    (s.start l f).pending = s.pending ∧ (s.start l f).phase = s.phase ∧ (s.start l f).mu = s.mu ∧
      (s.start l f).prev = s.prev ∧ (s.start l f).acct = s.acct ∧ (s.start l f).chg = s.chg ∧
      (s.start l f).set = s.set ∧ (s.start l f).inForce = s.inForce ∧ (s.start l f).tab = s.tab ∧ (s.start l f).test = s.test ∧
      (s.start l f).reg = s.reg ∧ (s.start l f).alloc = s.alloc ∧ (s.start l f).clim = s.clim ∧
      (s.start l f).water = s.water ∧ (s.start l f).mot = s.mot ∧ (s.start l f).wind = s.wind ∧
      (s.start l f).light = s.light ∧ (s.start l f).can = s.can ∧ (s.start l f).vehicle = s.vehicle ∧
      (s.start l f).log = s.log ∧ (s.start l f).store = s.store ∧ (s.start l f).handling = some (l, f) := by
  simp [State.start]

/-- A restart of the timer changes neither the event sets nor the standing, so nothing is announced. -/
theorem LinkState.restarted_attention (run : Bool) (cfg : LinkSettings) (k : LinkState) :
    (k.restarted cfg).attention run = k.attention run := rfl

theorem LinkState.announce_same (l : Link) (n : Nat) (b : Bool) (k : LinkState) : k.announce l n b b = k := by
  unfold LinkState.announce
  have h : ¬(l = .c ∧ b = false ∧ b = true) := fun h => by simp_all
  rw [if_neg h]

theorem State.validFrame_links {l : Link} (f : Frame) (u : State) (h1 : u.phase = .run)
    (h2 : (u.links.get l).live = .act) (k : Link) : (u.validFrame l f).links.get k = afterFrame l f.kind u k := by
  unfold State.validFrame afterFrame
  have e : ¬((u.lk l).live = .lapsed) := by simp [h2]
  rw [if_neg e]
  by_cases hc : (u.set.links.get l).silenceMode = .auto ∨ f.kind = 0x08
  · rw [if_pos hc]
    unfold State.restartTimer
    rw [if_pos ⟨by simp [h1], by simp [h2]⟩, State.modLink_lk]
    by_cases hk : k = l
    · subst hk
      rw [if_pos rfl, if_pos ⟨rfl, hc⟩, LinkState.restarted_attention, LinkState.announce_same]
      rfl
    · rw [if_neg hk, if_neg (fun e => hk e.1)]
      rfl
  · rw [if_neg hc, if_neg (fun e => hc e.2)]
    rfl

/-- R157: the links at the start of an owner's work. -/
theorem State.start_links {l : Link} {s : State} (f : Frame) (h : Ready l s) (k : Link) :
    (s.start l f).links.get k = afterFrame l f.kind s k :=
  State.validFrame_links f { s with handling := some (l, f) } h.1 h.2.1 k

theorem afterFrame_fields (l : Link) (kind : Byte) (s : State) (k : Link) :
    (afterFrame l kind s k).live = (s.links.get k).live ∧ (afterFrame l kind s k).rxQueue = (s.links.get k).rxQueue ∧
      (afterFrame l kind s k).part = (s.links.get k).part ∧ (afterFrame l kind s k).batch = (s.links.get k).batch ∧
      (afterFrame l kind s k).snapshot = (s.links.get k).snapshot ∧
      (afterFrame l kind s k).pending = (s.links.get k).pending ∧
      (afterFrame l kind s k).mask = (s.links.get k).mask ∧ (afterFrame l kind s k).echo = (s.links.get k).echo ∧
      (afterFrame l kind s k).sent = (s.links.get k).sent := by
  unfold afterFrame
  split <;> exact ⟨rfl, rfl, rfl, rfl, rfl, rfl, rfl, rfl, rfl⟩

/-- The checks of the link supervisor pass. -/
theorem State.start_checked {l : Link} {f : Frame} {s : State} (h : Ready l s)
    (hc : needsConfigRight f = true → (s.set.links.get l).configRight = true) (hv : f.kind = 0x09 → l = .c) :
    (s.start l f).linkCheck l f = none := by
  have hl : ((s.start l f).links.get l).live = .act := by
    rw [State.start_links f h, (afterFrame_fields l f.kind s l).1]; exact h.2.1
  unfold State.linkCheck
  simp only [State.isRun_eq, State.start_frame, State.lk_eq, hl, h.1]
  have h2 : ¬(needsConfigRight f = true ∧ (s.set.links.get l).configRight = false) := fun e => by
    rw [hc e.1] at e; simp at e
  have h3 : ¬(f.kind = 0x09 ∧ l ≠ .c) := fun e => e.2 (hv e.1)
  rw [if_neg (by simp), if_neg (by simp), if_neg h2, if_neg h3]

/-- R155: a request that its owner answers with anything but NOT_PERMITTED. -/
theorem State.serve_done {i : Instr} {l : Link} {f : Frame} {s v : State} {owner : State → State × Reply} {r : Reply}
    (hi : requestFrame i = some (l, f)) (h : Ready l s) (hk : f.known = true)
    (hc : needsConfigRight f = true → (s.set.links.get l).configRight = true) (hv : f.kind = 0x09 → l = .c)
    (ho : owner (s.start l f) = (v, r)) (hs : r.status ≠ .notPermitted) :
    s.serve i owner = (v.sendReply l (replyFrame f r)).endHandling := by
  have hq := h.2.2.1
  have hb := h.2.2.2.1
  have ha : s.awake = true := by simp [h.1]
  have hlive : (s.lk l).live ≠ .off := by rw [h.2.1]; decide
  unfold State.serve
  rw [hi]
  dsimp only
  unfold State.onRequest
  rw [if_pos ha]
  split
  · rw [if_neg (by simp [hb])]
    unfold State.handleFrame
    rw [if_neg hlive]
    dsimp only
    unfold State.answer
    rw [if_pos hk]
    change ((State.reportRefusal _ _).sendReply l _).endHandling = _
    have hst : (({ s with handling := some (l, f) } : State).validFrame l f) = s.start l f := rfl
    dsimp only
    rw [hst, State.start_checked h hc hv]
    dsimp only
    rw [ho]
    unfold State.reportRefusal
    rw [if_neg hs]
  · rename_i e
    rw [hq] at e; cases e

/-- What the reply adds to the state the owner left. -/
theorem State.finish_frame (l : Link) (g : Frame) (v : State) :
    ((v.sendReply l g).endHandling).pending = v.pending ∧ ((v.sendReply l g).endHandling).phase = v.phase ∧
      ((v.sendReply l g).endHandling).mu = v.mu ∧ ((v.sendReply l g).endHandling).prev = v.prev ∧
      ((v.sendReply l g).endHandling).acct = v.acct ∧ ((v.sendReply l g).endHandling).chg = v.chg ∧
      ((v.sendReply l g).endHandling).set = v.set ∧ ((v.sendReply l g).endHandling).inForce = v.inForce ∧ ((v.sendReply l g).endHandling).tab = v.tab ∧
      ((v.sendReply l g).endHandling).test = v.test ∧ ((v.sendReply l g).endHandling).reg = v.reg ∧
      ((v.sendReply l g).endHandling).alloc = v.alloc ∧ ((v.sendReply l g).endHandling).clim = v.clim ∧
      ((v.sendReply l g).endHandling).water = v.water ∧ ((v.sendReply l g).endHandling).mot = v.mot ∧
      ((v.sendReply l g).endHandling).wind = v.wind ∧ ((v.sendReply l g).endHandling).light = v.light ∧
      ((v.sendReply l g).endHandling).vehicle = v.vehicle ∧ ((v.sendReply l g).endHandling).log = v.log ∧
      ((v.sendReply l g).endHandling).store = v.store ∧ ((v.sendReply l g).endHandling).handling = none := by
  simp [State.endHandling]

/-- A reply changes nothing of a link but what was sent on it, and nothing at all of link C. -/
theorem State.finish_links (l k : Link) (g : Frame) (v : State) :
    ((v.sendReply l g).endHandling).links.get k =
      { v.links.get k with
        sent := if k = l ∧ l ≠ .c then (v.links.get k).sent ++ [{ id := none, payload := g }] else (v.links.get k).sent
      } := by
  cases l <;> cases k <;> rfl

theorem State.finish_can (l : Link) (g : Frame) (v : State) :
    ((v.sendReply l g).endHandling).can =
      { replies :=
          if l = .c then v.can.replies ++ [{ id := some (canReplyId v.can.node), payload := g }] else v.can.replies
        node := v.set.node } := by
  cases l <;> rfl

/-- R151: the reply frame carries kind, tag, status and the result bytes. -/
theorem replyFrame_isReply {f : Frame} {r : Reply} (hk : f.known = true) (hr : r.result.length ≤ 5) :
    IsReply (replyFrame f r) f.kind f.tag r.status r.result := by
  refine ⟨by simp [replyFrame, hk], rfl, rfl, ?_⟩
  obtain ⟨st, bs, b, t⟩ := r
  simp only at hr
  match bs, hr with
  | [], _ => exact List.nil_prefix
  | [a], _ => exact ⟨_, rfl⟩
  | [a, b], _ => exact ⟨_, rfl⟩
  | [a, b, c], _ => exact ⟨_, rfl⟩
  | [a, b, c, d], _ => exact ⟨_, rfl⟩
  | [a, b, c, d, e], _ => exact ⟨_, rfl⟩
  | _ :: _ :: _ :: _ :: _ :: _ :: _, h => exact absurd h (by simp only [List.length_cons]; omega)

/-- The reply of a served request, where the owner sent nothing itself. -/
theorem State.finish_replied {l : Link} {f : Frame} {s v : State} {r : Reply} (h : Ready l s) (hk : f.known = true)
    (hr : r.result.length ≤ 5) (hcan : v.can = s.can)
    (hsent : (v.links.get .p).sent = ((s.start l f).links.get .p).sent ∧
      (v.links.get .t).sent = ((s.start l f).links.get .t).sent) :
    Replied l f.kind f.tag r.status r.result s ((v.sendReply l (replyFrame f r)).endHandling) := by
  refine ⟨_, replyFrame_isReply hk hr, ?_, fun k hkc => ?_⟩
  · rw [State.finish_can, hcan, (State.finish_frame l (replyFrame f r) v).2.2.2.2.2.2.1]
  · simp only [State.lk_eq]
    rw [State.finish_links]
    have hs : (v.links.get k).sent = (s.links.get k).sent := by
      have e := (afterFrame_fields l f.kind s k).2.2.2.2.2.2.2.2
      rw [← State.start_links f h k] at e
      cases k
      · exact absurd rfl hkc
      · exact hsent.1.trans e
      · exact hsent.2.trans e
    dsimp only
    rw [hs]
    by_cases e : k = l
    · subst e; simp [hkc]
    · simp [e]

/-- The links after a served request whose owner changed nothing of them but event sets. -/
theorem State.finish_kept {l : Link} {f : Frame} {s v : State} (g : Frame) (h : Ready l s)
    (hv : ∀ k, v.links.get k =
      { (s.start l f).links.get k with pending := (v.links.get k).pending, sent := (v.links.get k).sent }) :
    LinksKept l f.kind s ((v.sendReply l g).endHandling) := by
  intro k
  simp only [State.lk_eq]
  rw [State.finish_links, ← State.start_links f h k]
  conv => lhs; rw [hv k]

/-- Two links alike in every field but two. -/
theorem LinkState.same_but {x y : LinkState} (h : x.live = y.live ∧ x.timer = y.timer ∧ x.shortTaken = y.shortTaken ∧
    x.longTaken = y.longTaken ∧ x.shortN = y.shortN ∧ x.longN = y.longN ∧ x.rxQueue = y.rxQueue ∧ x.part = y.part ∧
    x.batch = y.batch ∧ x.snapshot = y.snapshot ∧ x.mask = y.mask ∧ x.echo = y.echo) :
    x = { y with pending := x.pending, sent := x.sent } := by
  cases x; cases y; simp_all

/-- What a served request leaves of the state's other parts is what its owner leaves. -/
theorem State.finish_eq {l : Link} {g : Frame} {s v : State} (h : s.handling = none) :
    (v.sendReply l g).endHandling =
      { v with
        links := ((v.sendReply l g).endHandling).links, can := ((v.sendReply l g).endHandling).can
        handling := s.handling } := by
  rw [h]; cases l <;> rfl

/-- A request whose owner makes one operation of the register. -/
theorem State.serve_regApply {i : Instr} {l : Link} {f : Frame} {s : State} {owner : State → State × Reply} {r : Reply}
    {es : List Entry} {os : List Origin} (hi : requestFrame i = some (l, f)) (h : Ready l s) (hk : f.known = true)
    (hc : needsConfigRight f = true → (s.set.links.get l).configRight = true) (hv : f.kind = 0x09 → l = .c)
    (ho : owner (s.start l f) = ((s.start l f).regApply es os, r)) (hs : r.status ≠ .notPermitted)
    (hr : r.result.length ≤ 5) :
    ∃ t, s.serve i owner = t ∧ t.reg = es ∧ Replied l f.kind f.tag r.status r.result s t ∧ HandedOn s t ∧
      Announced os s t ∧ LinksKept l f.kind s t ∧
      t = { s with
        reg := t.reg, clim := t.clim, water := t.water, tab := t.tab, light := t.light, links := t.links
        can := t.can } := by
  refine ⟨_, State.serve_done hi h hk hc hv ho hs, ?_, ?_, ?_, ?_, ?_, ?_⟩
  · simp
  · exact State.finish_replied h hk hr (by simp) (by simp)
  · exact (State.regApply_handed es os (s.start l f)).of_fields (by simp) (by simp) (by simp) (by simp) (by simp)
      (by simp) (by simp) (by simp) (by simp) (by simp)
  · intro k
    have e := State.regApply_announced es os (s.start l f) (by simp [h.1]) k
    have hl := State.finish_links l k (replyFrame f r) ((s.start l f).regApply es os)
    have hp : ((s.start l f).lk k).pending = (s.lk k).pending := by
      have a := afterFrame_fields l f.kind s k
      simp only [State.lk_eq, State.start_links f h, a.2.2.2.2.2.1]
    rw [hp] at e
    have hc := registerEvents_congr (os := os) (s := s.start l f) (s' := s) (t := (s.start l f).regApply es os)
      (t' := (((s.start l f).regApply es os).sendReply l (replyFrame f r)).endHandling) (k := k)
      ((congrArg (fun x => LinkState.echo x) hl : _)) (by simp) (by simp) (by simp) (by simp)
    rw [hc, ← e]
    have hl' := congrArg LinkState.pending hl
    exact hl'
  · exact State.finish_kept _ h fun k => LinkState.same_but (State.regApply_lk es os (s.start l f) k)
  · have e := State.regApply_frame es os (s.start l f)
    have a := State.start_frame l f s
    generalize hv : (s.start l f).regApply es os = v at *
    rw [State.finish_eq (s := s) h.2.2.2.2]
    cases v; cases s
    simp_all

end Sys2Proof.Machine
end

