-- ==== Sys2Proof/Tests/Slice0.lean ====
section
/-!
SUPPORT. Tests: ill-formed commands refused by WellFormed, request frames written out byte by byte, one or two small
tests of each kind of command with results worked out from the spec, and a witness for the hypotheses of each statement.
-/

namespace Sys2Proof.Tests

open Sys2Proof Sys2Proof.Machine

-- One proof at a time: each may use much of the memory the check allows.
set_option Elab.async false

/-! ### States -/

/-- The state after a command. -/
def after (i : Instr) (s : State) : State :=
  match exec i s with
  | .next t => t
  | _ => s

/-- RUN with the default settings, a warm bank at 900 per mille, nothing wanted. -/
def quiet : State :=
  { State.reset with
    phase := .run
    acct := { Account.powerOn with loaded := true, q := 324000000, sync := .synced, socPm := 900, effReserve := 200, iCeiling := 15000 }
    mu := { idleSweep with bankV := 12600, minV := 12600, tBank := 40, tCabin := 40, tValve := 40 }
    prev := { idleSweep with bankV := 12600, minV := 12600, tBank := 40, tCabin := 40, tValve := 40 } }

/-- The measurements of `quiet`, published again. -/
def calm : Sweep := quiet.mu

/-- One entry of link P. -/
def entryP : Entry := { origin := .p, target := 5, level := 1000, prec := 2, hold := .persist }

/-- `quiet` with entries of links C and P. -/
def held : State :=
  { quiet with reg := [{ origin := .c, target := 11, level := 1000, prec := 1, hold := .timed 1 }, entryP,
      { origin := .p, target := 12, level := 500, prec := 0, hold := .tethered }] }

/-- A record changed in `s`. -/
def withRow (r : RecNo) (f : LoadRec → LoadRec) (s : State) : State := { s with tab := tset s.tab r (f (s.row r)) }

/-- `quiet` with record 5 driven. -/
def driven : State := withRow 5 (fun x => { x with wanted := 1000, ordered := 1000, granted := 1000 }) quiet

/-- A link of `s` changed. -/
def withLink (l : Link) (f : LinkState → LinkState) (s : State) : State := { s with links := s.links.set l (f (s.links.get l)) }

/-- `quiet` with the awning in a motion state. -/
def awningIn (x : MotionState) (s : State) : State :=
  { s with mot := { s.mot with awning := { s.mot.awning with state := x } } }

/-! ### WellFormed: one ill-formed command for each check -/

theorem test_refuses_long_image : (Instr.settingsLoadCompletion (List.replicate 65537 0)).wellFormed = false := by
  show decide ((List.replicate 65537 (0 : Byte)).length ≤ 65536) = false
  rw [List.length_replicate]; rfl

theorem test_refuses_long_readback : (Instr.saveCompletion (some (List.replicate 65537 0))).wellFormed = false := by
  show decide ((List.replicate 65537 (0 : Byte)).length ≤ 65536) = false
  rw [List.length_replicate]; rfl

theorem test_accepts_sweep : (Instr.sweepCompletion calm [.allocator, .account]).wellFormed = true := by decide +kernel

theorem test_refuses_sweep_order : (Instr.sweepCompletion calm [.water, .water]).wellFormed = false := by decide +kernel

theorem test_refuses_sweep_shunt : (Instr.sweepCompletion { calm with shunt := 32768 } []).wellFormed = false := by decide +kernel

theorem test_refuses_sweep_bankV : (Instr.sweepCompletion { calm with bankV := 20001 } []).wellFormed = false := by decide +kernel

theorem test_refuses_sweep_minV : (Instr.sweepCompletion { calm with minV := 12601 } []).wellFormed = false := by decide +kernel

theorem test_refuses_sweep_tBank : (Instr.sweepCompletion { calm with tBank := -81 } []).wellFormed = false := by decide +kernel

theorem test_refuses_sweep_chargeIn : (Instr.sweepCompletion { calm with chargeIn := -1 } []).wellFormed = false := by decide +kernel

theorem test_refuses_sweep_tCabin : (Instr.sweepCompletion { calm with tCabin := 171 } []).wellFormed = false := by decide +kernel

theorem test_refuses_sweep_tValve : (Instr.sweepCompletion { calm with tValve := 171 } []).wellFormed = false := by decide +kernel

theorem test_refuses_sweep_tOut : (Instr.sweepCompletion { calm with tOut := -81 } []).wellFormed = false := by decide +kernel

theorem test_refuses_sweep_starter : (Instr.sweepCompletion { calm with starterV := 20001 } []).wellFormed = false := by decide +kernel

theorem test_refuses_sweep_sender : (Instr.sweepCompletion { calm with sender := 1001 } []).wellFormed = false := by decide +kernel

theorem test_refuses_sweep_current :
    (Instr.sweepCompletion { calm with currents := tset calm.currents 7 32768 } []).wellFormed = false := by decide +kernel

theorem test_refuses_trip_of_motor : (Instr.overloadTrip 20 900).wellFormed = false := by decide

theorem test_refuses_trip_current : (Instr.overloadTrip 5 32768).wellFormed = false := by decide

theorem test_refuses_short_of_light : (Instr.shortCircuit 12 900).wellFormed = false := by decide

theorem test_refuses_short_current : (Instr.shortCircuit 5 32768).wellFormed = false := by decide

theorem test_refuses_retry_of_motor : (Instr.retryTimerExpiry 21).wellFormed = false := by decide

theorem test_refuses_quiet_of_motor : (Instr.quietTimerExpiry 20).wellFormed = false := by decide

theorem test_refuses_uart_frame_on_can : (Instr.uartFrameReceived .c ⟨8, 0, 0, 0, 0, 0, 0, 0⟩ 0).wellFormed = false := by decide

theorem test_refuses_uart_byte_on_can : (Instr.uartByteReceived .c 0xA5).wellFormed = false := by decide

theorem test_refuses_gap_on_can : (Instr.frameGapTimeout .c).wellFormed = false := by decide

theorem test_refuses_long_can_frame :
    (Instr.canFrameReceived 0x0CF0A100 false [8, 0, 0, 0, 0, 0, 0, 0, 0]).wellFormed = false := by decide

theorem test_refuses_known_kind : (Instr.unknownKind .p ⟨8, 0, 0, 0, 0, 0, 0, 0⟩).wellFormed = false := by decide

/-! ### Frames (the table of R151), written out byte by byte -/

theorem test_decodes_place :
    decodeRequest .c ⟨0x01, 0x11, 0x0E, 0xF4, 0x01, 0x21, 0x3C, 0x00⟩ = .place .c 0x11 14 500 2 1 60 := by decide

theorem test_decodes_withdraw : decodeRequest .p ⟨0x02, 0x12, 0x05, 0, 0, 0, 0, 0⟩ = .withdraw .p 0x12 5 := by decide

theorem test_decodes_withdraw_all : decodeRequest .t ⟨0x03, 0x13, 0, 0, 0, 0, 0, 0⟩ = .withdrawAll .t 0x13 := by decide

theorem test_decodes_extend_to :
    decodeRequest .p ⟨0x04, 0x22, 0x00, 0x03, 0x58, 0x02, 0, 0⟩ = .extendTo .p 0x22 0 600 := by decide

theorem test_decodes_stow : decodeRequest .p ⟨0x04, 0x22, 0x01, 0x01, 0, 0, 0, 0⟩ = .stow .p 0x22 1 := by decide

theorem test_decodes_scene :
    decodeRequest .p ⟨0x05, 0x30, 0x02, 0x31, 0x2C, 0x01, 0, 0⟩ = .scene .p 0x30 2 3 1 300 := by decide

theorem test_decodes_read : decodeRequest .t ⟨0x06, 0x40, 0x00, 0x05, 0x02, 0, 0, 0⟩ = .read .t 0x40 0 5 2 := by decide

theorem test_decodes_events :
    decodeRequest .c ⟨0x07, 0x41, 0x01, 0xBF, 0x03, 0, 0, 0⟩ = .events .c 0x41 1 0x03BF := by decide

theorem test_decodes_keepalive : decodeRequest .t ⟨0x08, 0x42, 0, 0, 0, 0, 0, 0⟩ = .keepalive .t 0x42 := by decide

theorem test_decodes_vehicle : decodeRequest .c ⟨0x09, 0x43, 0x50, 0, 0, 0, 0, 0⟩ = .vehicle .c 0x43 80 := by decide

theorem test_decodes_configure_stage :
    decodeRequest .p ⟨0x0A, 0x50, 0x11, 0x05, 0x90, 0x01, 0x00, 0x01⟩ = .configureStage .p 0x50 0x11 5 400 := by decide

theorem test_decodes_configure :
    decodeRequest .p ⟨0x0A, 0x50, 0x3D, 0x03, 0xE8, 0x23, 0x01, 0x00⟩ = .configure .p 0x50 0x3D 3 0x0123E8 := by decide

theorem test_decodes_clear_heater : decodeRequest .p ⟨0x0B, 0x51, 0x01, 0, 0, 0, 0, 0⟩ = .clearHeater .p 0x51 := by decide

theorem test_decodes_reset_motion : decodeRequest .p ⟨0x0C, 0x52, 0x03, 0, 0, 0, 0, 0⟩ = .resetMotion .p 0x52 := by decide

theorem test_decodes_save : decodeRequest .p ⟨0x0D, 0x53, 0, 0, 0, 0, 0, 0⟩ = .save .p 0x53 := by decide

theorem test_decodes_selftest : decodeRequest .p ⟨0x0E, 0x54, 0, 0, 0, 0, 0, 0⟩ = .selftest .p 0x54 := by decide

theorem test_decodes_set_charge : decodeRequest .p ⟨0x0F, 0x55, 0x8A, 0x02, 0, 0, 0, 0⟩ = .setCharge .p 0x55 650 := by decide

theorem test_decodes_close_drain : decodeRequest .p ⟨0x10, 0x56, 0, 0, 0, 0, 0, 0⟩ = .closeDrain .p 0x56 := by decide

theorem test_decodes_unknown_kind :
    decodeRequest .p ⟨0x11, 0x57, 0, 0, 0, 0, 0, 0⟩ = .unknownKind .p ⟨0x11, 0x57, 0, 0, 0, 0, 0, 0⟩ := by decide

theorem test_decodes_bad_motion :
    decodeRequest .p ⟨0x04, 0x57, 0, 4, 0, 0, 0, 0⟩ = .unknownKind .p ⟨0x04, 0x57, 0, 4, 0, 0, 0, 0⟩ := by decide

theorem test_no_word_spells_a_command : decodeTableWord 64 0x08 = none := rfl

theorem test_idle_part_stays : step State.reset = .next State.reset := rfl

/-! ### Commands: energy, load table -/

/-- The cold evening of 1.11, before its first sweep. -/
def evening : Account :=
  { Account.powerOn with
    loaded := true, q := 400000000, throughput := 50000000, cEff := 576562500
    copy := { AcctSettings.default with cNom := 200, eta := 253 } }

/-- 1.11, first row: a discharging sweep. -/
theorem test_account_discharge :
    let a := evening.sweep (-1234) 12600 0 (-10) false
    a.q = 399998766 ∧ a.throughput = 50001234 ∧ a.socPm = 693 ∧ a.effReserve = 300 ∧ a.iCeiling = 12773 := by
  decide +kernel

/-- 1.11, SET_CHARGE pm = 650. -/
theorem test_set_charge_state :
    let a := Account.setCharge 650 { evening with q := 400001236 }
    a.q = 374765625 ∧ a.throughput = 0 ∧ a.socPm = 650 ∧ a.effReserve = 200 ∧ a.sync = .manual := by decide +kernel

/-- R4, R16: the 50th sweep below V_cut enters CUT and raises BANK_CUT. -/
theorem test_sweep_enters_cut :
    let t := after (.sweepCompletion { calm with bankV := 10710, minV := 10710 } []) { quiet with acct := { quiet.acct with cutCounter := 49 } }
    t.acct.bank = .cut ∧ t.acct.iCeiling = 0 ∧ tget t.log.status 0 = true := by decide +kernel

/-- R14, R15: for lead 10,200 mV is not below V_hard and 10,199 mV is. -/
theorem test_sweep_hard_path :
    (after (.sweepCompletion { calm with minV := 10200 } []) quiet).acct.bank = .normal ∧
      (after (.sweepCompletion { calm with minV := 10199 } []) quiet).acct.bank = .cut := by decide +kernel

/-- The bank CUT and charged at 11,301 mV, above V_cut + 500, with 5 A counted in. -/
def charging : State :=
  { quiet with
    acct := { quiet.acct with bank := .cut, iCeiling := 0, recoveryCounter := 99, socPm := 118 }
    mu := { quiet.mu with bankV := 11301 }
    chg := { quiet.chg with shoreEn := true, iIn := 500 } }

/-- R17, R30: the 100th recovery count leaves CUT, SoC_pm 118 lying in the reserve (1.11); with the enables off it does not. -/
theorem test_recovery :
    (after .recoveryCounterExpiry charging).acct.bank = .reserve ∧
      (after .recoveryCounterExpiry { charging with chg := { charging.chg with shoreEn := false } }).acct.bank = .cut := by
  decide +kernel

/-- R14, R16: 10,799 mV is below V_cut and 10,800 mV is not. -/
theorem test_cut_counter_expiry :
    let s := fun (v : Nat) => { quiet with acct := { quiet.acct with cutCounter := 49 }, mu := { quiet.mu with bankV := v } }
    (after .cutCounterExpiry (s 10799)).acct.bank = .cut ∧ (after .cutCounterExpiry (s 10800)).acct.bank = .normal := by
  decide +kernel

/-- R28: with alt_delay 0 ALT_EN comes on with ENGINE, and stays off without it. -/
theorem test_alt_delay_zero :
    let s := { quiet with set := { quiet.set with charge := { quiet.set.charge with altDelay := 0 } } }
    (after (.sweepCompletion { calm with engine := true } []) s).chg.altEn = true ∧
      (after (.sweepCompletion calm []) s).chg.altEn = false := by decide +kernel

theorem test_full_detection :
    (let s := fun (v : Nat) => { quiet with
      mu := { quiet.mu with bankV := v, shunt := 199 }, acct := { quiet.acct with fullCounter := 1199, q := 5 } }
     (after .fullDetection (s 15000)).acct.q = 360000000 ∧ (after .fullDetection (s 13000)).acct.q = 5) := by
  decide +kernel

/-- R27, R28: at alt_delay 10 the 100th count turns ALT_EN on. -/
theorem test_alt_delay :
    (after .altDelayExpiry
      { quiet with mu := { quiet.mu with engine := true }, chg := { quiet.chg with altTimer := 99 } }).chg.altEn = true := by
  decide +kernel

/-- R46: min(4 × 400, 3000) = 1600 is no short circuit, 1601 is one. -/
theorem test_short_circuit_limit :
    ((after (.shortCircuit 5 1600) driven).row 5).prot = .normal ∧ ((after (.shortCircuit 5 1601) driven).row 5).prot = .retryWait := by
  decide +kernel

/-- R45: 8000 is the limit of a record rated 400; 7900 + (600 − 400) is above it. -/
theorem test_overload_trip :
    let s := withRow 5 (fun x => { x with bucket := 7900 }) driven
    ((after (.overloadTrip 5 600) s).row 5).prot = .retryWait ∧ (after (.overloadTrip 5 500) s) = s := by decide +kernel

theorem test_retry_timer :
    let x := (after (.retryTimerExpiry 5) (withRow 5 (fun x => { x with prot := .retryWait, retryTimer := 1 }) quiet)).row 5
    x.prot = .normal ∧ x.retryCount = 1 ∧ x.join = true := by decide +kernel

theorem test_quiet_timer :
    ((after (.quietTimerExpiry 5) (withRow 5 (fun x => { x with quiet := 599, retryCount := 2 }) quiet)).row 5).retryCount = 0 := by
  decide +kernel

/-- R53, R54: slot 3 ends with FAIL: record 3 is UNPROTECTED and slot 4 begins. -/
theorem test_selftest_slot :
    let t := after (.selftestSlotEnd false) { quiet with test := { quiet.test with seq := .running 3 .testing } }
    (t.row 3).prot = .unprotected ∧ t.test.seq = .running 4 .testing := by decide +kernel

theorem test_selftest :
    (after (.selftest .p 1) quiet).test.seq = .running 0 .testing := by decide +kernel

/-- R88: record 3 was shed for want of budget and comes back at the 30th count. -/
theorem test_restore :
    let s := withRow 3 (fun x => { x with ordered := 1000, wanted := 1000, alloc := .shed }) quiet
    let c : ClassAlloc := { demand := 500, grant := 900, dim := 1000, cand := .record 3, counter := 29 }
    ((after (.restore .c2) { s with alloc := { s.alloc with cls := { s.alloc.cls with c2 := c } } }).row 3).granted = 1000 := by
  decide +kernel

/-- R84: the water-filling of a pool of 1000 among demands 900 (weight 2), 200 (weight 4) and 300 (weight 1). -/
theorem test_class_grants :
    classGrants 1000 { c0 := 300, c1 := 900, c2 := 200 } { c0 := 1, c1 := 2, c2 := 4 } = { c0 := 266, c1 := 534, c2 := 200 } := by
  decide +kernel

/-! ### Commands: climate, water, motion, wind, lighting -/

theorem test_start_timer :
    let t := after .startTimerExpiry { quiet with clim := { quiet.clim with heater := .start, startTimer := 1, failCount := 2 } }
    t.clim.heater = .coolDown ∧ t.clim.failCount = 3 ∧ t.clim.coolTimer = 1800 := by decide +kernel

theorem test_cool_down_timer :
    (after .coolDownTimerExpiry { quiet with clim := { quiet.clim with heater := .coolDown, coolTimer := 1, failCount := 3 } }).clim.heater =
      .lockout := by decide +kernel

theorem test_clear_heater :
    (after (.clearHeater .p 1) { quiet with clim := { quiet.clim with heater := .lockout, call := true } }).clim.heater =
      .waitBudget := by decide +kernel

/-- R107: 14 closes, 13 does not. -/
theorem test_close_drain :
    (after (.closeDrain .p 1) { quiet with clim := { quiet.clim with tValve := some 14 } }).clim.drain = .closed ∧
      (after (.closeDrain .p 1) { quiet with clim := { quiet.clim with tValve := some 13 } }).clim.drain = .opened := by
  decide +kernel

/-- R114: the levels of its examples. -/
theorem test_fresh_level :
    freshLevel 100 900 520 = 525 ∧ freshLevel 100 900 90 = 0 ∧ freshLevel 100 900 950 = 1000 ∧ freshLevel 880 120 500 = 500 := by
  decide

/-- R115, R116: the median and the bands of their examples. -/
theorem test_median_and_bands :
    median5 [400, 412, 388, 790, 405] = 405 ∧ moveBand .low 260 = .low ∧ moveBand .low 760 = .mid ∧ moveBand .low 29 = .empty := by
  decide

theorem test_clear_pump :
    (after (.clearPump .p 1) { quiet with water := { quiet.water with pump := .dryLock, lockCause := some .dry } }).water.pump = .off := by
  decide +kernel

/-- R129: a DEPLOY of the resting awning. -/
theorem test_deploy :
    let t := after (.deploy .p 1 0) quiet
    t.mot.awning.state = .deploying ∧ (t.row 20).wanted = 1000 ∧ t.mot.awning.source = .link .p := by decide +kernel

/-- R130: an awning just driven OUT pauses before it is stowed. -/
theorem test_stow_pauses :
    (after (.stow .p 1 0)
      (awningIn .deployed { quiet with mot := { quiet.mot with awning := { quiet.mot.awning with rest := 4, lastDir := some .outward } } })).mot.awning.state =
      .pause .inward := by decide +kernel

theorem test_halt : (after (.halt .p 1 0) (awningIn .stowing quiet)).mot.awning.state = .halted := by decide +kernel

theorem test_extend_to :
    let t := after (.extendTo .p 1 0 600) quiet
    t.mot.awning.state = .deploying ∧ t.mot.awning.target = 600 := by decide +kernel

theorem test_pause_end :
    (after (.pauseEnd .awning)
      (awningIn (.pause .inward) { quiet with mot := { quiet.mot with awning := { quiet.mot.awning with rest := 4 } } })).mot.awning.state =
      .stowing := by decide +kernel

theorem test_travel_timeout :
    (after (.travelTimeout .awning)
      (awningIn .deploying { quiet with mot := { quiet.mot with awning := { quiet.mot.awning with travel := 449 } } })).mot.awning.state =
      .fault .timeout := by decide +kernel

/-- R132: the third count ends the movement, and only with the bridge on. -/
theorem test_stall :
    let s := awningIn .deploying { quiet with mot := { quiet.mot with awning := { quiet.mot.awning with stall := 2 } } }
    (after (.stall .awning) (withRow 20 (fun x => { x with wanted := 1000, ordered := 1000, granted := 1000 }) s)).mot.awning.state =
      .fault .stall ∧ (after (.stall .awning) s).mot.awning.state = .deploying := by decide +kernel

theorem test_clear_motion : (after (.clearMotion .p 1 0) (awningIn (.fault .stall) quiet)).mot.awning.state = .halted := by
  decide +kernel

/-- R170: while RST_N is low the open drain's channel does not trip. -/
theorem test_no_trip_in_reset :
    let s := { withRow 2 (fun x => { x with bucket := 65535 }) quiet with
      phase := .resetLow, clim := { quiet.clim with drain := .closed, heldDrive := some true } }
    after (.overloadTrip 2 3000) s = s ∧ after (.shortCircuit 2 3001) s = s := by decide +kernel

/-- R137: with factor 24, 17 pulses (40 km/h) do not count and 18 (43 km/h) do. -/
theorem test_wind_window :
    (after (.windWindowCompletion 17) quiet).wind.count = 0 ∧ (after (.windWindowCompletion 18) quiet).wind.count = 1 := by
  decide +kernel

theorem test_wind_stow :
    let t := after .windStow (awningIn .deployed { quiet with wind := { quiet.wind with count := 2 } })
    t.wind.lock = true ∧ t.wind.timer = 600 ∧ t.mot.awning.state = .stowing := by decide +kernel

theorem test_wind_lock_ends :
    (after .windLockTimerExpiry { quiet with wind := { quiet.wind with lock := true, timer := 1 } }).wind.lock = false := by
  decide +kernel

/-- R143: a fade of 50 stops at the target. -/
theorem test_fade : fadeTo 0 1000 50 = 50 ∧ fadeTo 980 1000 50 = 1000 ∧ fadeTo 30 0 50 = 0 ∧ fadeTo 500 500 50 = 500 := by decide

/-! ### Commands: register and links -/

theorem test_place_replaces_at_tail :
    (after (.place .p 1 5 1 3 1 0) held).reg =
      [{ origin := .c, target := 11, level := 1000, prec := 1, hold := .timed 1 },
        { origin := .p, target := 12, level := 500, prec := 0, hold := .tethered },
        { origin := .p, target := 5, level := 1000, prec := 3, hold := .timed 1 }] := by decide +kernel

theorem test_withdraw : (after (.withdraw .p 1 5) held).reg.length = 2 := by decide +kernel

/-- A heater in RUN under the COMFORT of link P, above the OFF of link C, and a pump that runs under link P's AUTO. -/
def warm : State :=
  { quiet with
    reg := [{ origin := .c, target := 22, level := 0, prec := 1, hold := .persist },
      { origin := .p, target := 22, level := 3, prec := 2, hold := .persist },
      { origin := .p, target := 24, level := 1, prec := 0, hold := .tethered }]
    clim := { quiet.clim with mode := .comfort, modeBy := .p, heater := .run, call := true }
    water := { quiet.water with mode := .auto, modeBy := .p, pump := .running, dryTimer := 30 } }

/-- R95, R99: a hand-over of mode OFF sets the call off and sends a heater in RUN to COOL_DOWN. R118: one of pump mode OFF
stops the pump. -/
theorem test_withdraw_hands_modes_off :
    (let c := (after (.withdraw .p 1 22) warm).clim
     c.mode = .off ∧ c.modeBy = .c ∧ c.call = false ∧ c.heater = .coolDown ∧ c.coolTimer = 1800) ∧
    (let w := (after (.withdraw .p 1 24) warm).water
     w.mode = .off ∧ w.modeBy = .rest ∧ w.pump = .off ∧ w.dryTimer = 0) := by decide +kernel

theorem test_withdraw_all : (after (.withdrawAll .p 1) held).reg.length = 1 := by decide +kernel

theorem test_reset_demands : (after (.resetDemands .p 1) held).reg = [] := by decide +kernel

theorem test_one_second : (after .oneSecondTimerExpiry held).reg.length = 2 := by decide +kernel

/-- R145, R146: scene 2 holds channels 2 and 3 at 300. -/
theorem test_scene :
    (after (.scene .p 1 2 3 0 0) quiet).reg =
      [{ origin := .p, target := 14, level := 300, prec := 3, hold := .persist },
        { origin := .p, target := 15, level := 300, prec := 3, hold := .persist }] := by decide +kernel

theorem test_events :
    let s := { quiet with links := { quiet.links with p := { quiet.links.p with pending := 0x0104, mask := 0x0100 } } }
    let t := after (.events .p 1 0 0) s
    (t.lk .p).pending = 0 ∧ (t.lk .p).mask = 0x0100 ∧ s.attention .p = true ∧ t.attention .p = false := by decide +kernel

theorem test_keepalive_returns :
    let s := { quiet with links := { quiet.links with t := { quiet.links.t with live := .lapsed } } }
    let t := after (.keepalive .t 1) s
    (t.lk .t).live = .act ∧ (t.lk .p).pending = 0x0080 := by decide +kernel

theorem test_vehicle_clamps :
    let t := after (.vehicle .c 1 251) quiet
    t.vehicle.speed = some 250 ∧ (t.can.replies.map fun r => r.payload.b2) = [0x02] := by decide +kernel

theorem test_vehicle_age : (after .vehicleAgeExpiry { quiet with vehicle := { speed := some 3, age := 19 } }).vehicle.speed = none := by
  decide +kernel

theorem test_long_silence :
    let s := { held with links := { held.links with p := { held.links.p with timer := some 5 } } }
    let t := after (.longSilence .p) s
    (t.lk .p).live = .lapsed ∧ t.reg.length = 2 ∧ tget t.log.status 15 = true := by decide +kernel

theorem test_short_silence :
    let s := { quiet with links := { quiet.links with t := { quiet.links.t with timer := some 5 } } }
    (after (.shortSilence .t) s).log.capture.map (·.origin) = some (.link .t) := by decide +kernel

/-- R158: part 0 of the register count item. -/
theorem test_read :
    (((after (.read .p 9 0x0A 0 0) held).lk .p).sent.map fun r => [r.payload.b2, r.payload.b3, r.payload.b4, r.payload.b5, r.payload.b6]) =
      [[0x00, 1, 3, 0, 29]] := by decide +kernel

/-- R152: CRC-8 with polynomial 0x07 of a KEEPALIVE of tag 0x42, worked out bit by bit. -/
theorem test_crc8_empty : crc8 [0, 0, 0, 0, 0, 0, 0, 0] = 0 ∧ crc8 [0, 0, 0, 0, 0, 0, 0, 1] = 0x07 := by decide +kernel

theorem test_uart_frame :
    ((after (.uartFrameReceived .p ⟨0, 0, 0, 0, 0, 0, 0, 1⟩ 0x07) quiet).lk .p).rxQueue.length = 1 ∧
      tget (after (.uartFrameReceived .p ⟨0, 0, 0, 0, 0, 0, 0, 1⟩ 0x08) quiet).log.status 16 = true := by decide +kernel

theorem test_uart_byte_hunts :
    ((after (.uartByteReceived .t 0xA5) quiet).lk .t).part = some [] ∧ after (.uartByteReceived .t 0x5A) quiet = quiet := by
  decide +kernel

theorem test_frame_gap :
    ((after (.frameGapTimeout .t) (after (.uartByteReceived .t 0xA5) quiet)).lk .t).part = none := by decide +kernel

theorem test_can_frame :
    ((after (.canFrameReceived 0x0CF0A100 false [8, 1, 0, 0, 0, 0, 0, 0]) quiet).lk .c).rxQueue.length = 1 ∧
      after (.canFrameReceived 0x0CF0A101 false [8, 1, 0, 0, 0, 0, 0, 0]) quiet = quiet := by decide +kernel

theorem test_can_reply_sent :
    let t := after .canReplySent (after (.keepalive .c 1) quiet)
    t.can.replies = [] ∧ ((t.lk .c).sent.map (·.id)) = [some 0x0CF0A200] := by decide +kernel

theorem test_unknown_kind :
    ((after (.unknownKind .p ⟨0x11, 7, 0, 0, 0, 0, 0, 0⟩) quiet).lk .p).sent.map (fun r => (r.payload.kind, r.payload.tag, r.payload.b2)) =
      [(0xFF, 7, 0x03)] := by decide +kernel

/-! ### Commands: settings, log, start-up -/

theorem test_configure_clamps :
    let t := after (.configure .p 1 0x01 0 1001) quiet
    t.set.acct.cNom = 1000 ∧ t.acct.sync = .unsynced ∧ ((t.lk .p).sent.map fun r => r.payload.b2) = [0x02] := by decide +kernel

/-- `quiet` with the step lit on LIGHT6. -/
def stepLit : State :=
  { quiet with reg := [{ origin := .step, target := 18, level := 1000, prec := 2, hold := .persist }, entryP] }

/-- R148: the STEP entry moves from record 18 to record 15, at the tail. -/
theorem test_configure_moves_step_light :
    (after (.configure .p 1 0x3C 0 3) stepLit).reg =
      [entryP, { origin := .step, target := 15, level := 1000, prec := 2, hold := .persist }] := by decide +kernel

theorem test_configure_stage : ((after (.configureStage .p 1 0x01 0 200) quiet).lk .p).batch.length = 1 := by decide +kernel

theorem test_configure_refused_without_right :
    let t := after (.configure .t 1 0x01 0 200) quiet
    t.set.acct.cNom = 100 ∧ tget t.log.status 17 = true := by decide +kernel

theorem test_clear_load_record :
    ((after (.clearLoadRecord .p 1 5) (withRow 5 (fun x => { x with prot := .tripped, retryCount := 3 }) quiet)).row 5).prot = .normal := by
  decide +kernel

theorem test_reset_loads :
    ((after (.resetLoads .p 1) (withRow 5 (fun x => { x with prot := .tripped, alloc := .shed }) quiet)).row 5).alloc = .granted := by
  decide +kernel

theorem test_reset_climate :
    (after (.resetClimate .p 1) { quiet with clim := { quiet.clim with heater := .run } }).clim.heater = .coolDown := by
  decide +kernel

theorem test_reset_motion : (after (.resetMotion .p 1) (awningIn .deploying quiet)).mot.awning.state = .halted := by decide +kernel

theorem test_reset_links :
    ((after (.resetLinks .p 1) { quiet with links := { quiet.links with t := { quiet.links.t with live := .lapsed } } }).lk .t).live = .act := by
  decide +kernel

/-- A known speed with IGN on, and the step in a state. -/
def driving (x : MotionState) : State :=
  { quiet with
    mu := { quiet.mu with ign := true }, vehicle := { speed := some 0, age := 0 }
    mot := { quiet.mot with step := { quiet.mot.step with state := x } } }

/-- R136, R160: with IGN on the LINKS reset stows a deployed step; where the age of the speed runs out, a step in FAULT
raises DRIVE_AWAY. -/
theorem test_unknown_speed_drives_away :
    (after (.resetLinks .p 1) (driving .deployed)).mot.step.state = .stowing ∧
      tget (after .vehicleAgeExpiry (driving (.fault .stall))).log.status Incident.driveAway.no = true := by decide +kernel

/-- R54: a FAIL of the drain's channel is captured as SELFTEST_FAIL, before the drain opens (log 35). -/
theorem test_selftest_fail_is_captured :
    let s := { quiet with
      clim := { quiet.clim with drain := .closed }, test := { quiet.test with seq := .running 2 .testing } }
    let t := after (.selftestSlotEnd false) s
    t.log.capture.map (·.kind) = some .selftestFail ∧ t.clim.drain = .opened := by decide +kernel

/-- R66, R159: the ceilings of links C and P lowered by one batch. Link C's entry prevails before and after, and its load
is not interrupted by link P's. -/
theorem test_configure_caps_at_once :
    let s := { quiet with
      reg :=
        [{ origin := .c, target := 3, level := 1000, prec := 3, hold := .persist },
          { origin := .p, target := 3, level := 0, prec := 2, hold := .persist }]
      tab := tset quiet.tab 3 { quiet.row 3 with wanted := 1000, wantedBy := .c, ordered := 1000, granted := 1000 }
      links := quiet.links.set .p { quiet.lk .p with batch := [{ code := 0x42, index := 0, value := 1 }] } }
    let t := after (.configure .p 1 0x42 1 0) s
    t.reg.map (·.prec) = [1, 0] ∧ (t.row 3).granted = 1000 := by decide +kernel

/-- R159, R161: a mask that the batch narrows holds for the events of the same CONFIGURE: link C sends no attention frame
of the ENERGY event that a new capacity raises. -/
theorem test_configure_mask_at_once :
    let s := { quiet with
      links := (quiet.links.set .p { quiet.lk .p with batch := [{ code := 0x47, index := 0, value := 0 }] }).set .c
        { quiet.lk .c with mask := 0x03FF }
      acct := { quiet.acct with sync := .synced } }
    let t := after (.configure .p 1 0x01 0 200) s
    (t.lk .c).pending.getLsbD Event.energy.no = true ∧ (t.lk .c).sent = [] := by decide +kernel

/-- R166: SETTINGS_LOAD is exempt from the clear of its group. -/
theorem test_clear_group :
    let s := { quiet with log := { quiet.log with status := Vector.replicate 22 true } }
    let t := after (.clearIncidentGroup .p 1 5) s
    tget t.log.status 20 = true ∧ tget t.log.status 21 = false ∧ tget t.log.status 17 = true := by decide +kernel

theorem test_clear_capture :
    (after (.clearCapture .p 1)
      { quiet with log := { quiet.log with capture := some ⟨.bankCut, .energyAccount, .block .energyAccount, none, none, 118, 14400⟩ } }).log.capture =
      none := by decide +kernel

theorem test_save : (after (.save .p 1) quiet).store.saving = some quiet.set := by decide +kernel

theorem test_save_fails :
    let t := after (.saveCompletion none) { quiet with store := { quiet.store with image := .valid, saving := some quiet.set } }
    t.store.image = .defaults ∧ tget t.log.status 20 = true := by decide +kernel

theorem test_power_on : (after .powerOn held).phase = .loading false ∧ (after .powerOn held).reg = [] := by decide +kernel

theorem test_rst_n :
    let t := after .rstNRelease (after .rstNAssert quiet)
    t.phase = .loading true ∧ tget t.log.status 21 = true ∧ t.acct.q = 324000000 := by decide +kernel

theorem test_load_timeout :
    let t := after .settingsLoadTimeout State.reset
    t.phase = .run ∧ t.acct.q = 180000000 ∧ t.acct.effReserve = 300 ∧ tget t.log.status 20 = true := by decide +kernel

theorem test_load_of_no_image : (after (.settingsLoadCompletion []) State.reset).store.image = .defaults := by decide +kernel

theorem test_clock_tick : (after .startUpClockTick { quiet with log := { quiet.log with clock := 4294967295 } }).log.clock = 4294967295 := by
  decide +kernel

theorem test_dry_run :
    let s := withRow 0 (fun x => { x with wanted := 1000, ordered := 1000, granted := 1000 }) quiet
    (after .dryRunTimerExpiry { s with water := { s.water with pump := .running, dryTimer := 599 } }).water.lockCause = some .dry := by
  decide +kernel

/-! ### Witnesses: queue, frames, invariants -/

/-- The start-up with no image: every entry to RUN made. -/
def started : State := after .settingsLoadTimeout State.reset

/-- A state of RUN with the bank CUT. -/
def cutState : State := { quiet with acct := { quiet.acct with bank := .cut, iCeiling := 0 } }

/-- The targets of the register. -/
def someTargets : List Nat := [3, 4, 5, 6, 7, 8, 9, 11, 12, 13, 14, 15, 16, 17, 18, 19, 22, 23, 24]

/-- A register of 32 entries: link P on every target, link C on the first 13. -/
def full : State :=
  { quiet with
    reg := (someTargets.map fun n => { origin := .p, target := n, level := 0, prec := 0, hold := .persist }) ++
      (someTargets.take 13).map fun n => { origin := .c, target := n, level := 0, prec := 0, hold := .persist } }

/-- The first 24 of them. -/
def roomFor8 : State := { full with reg := full.reg.take 24 }

theorem witness_RequestFrameReadsBack :
    (Instr.unknownKind .t ⟨0x11, 1, 2, 3, 4, 5, 6, 7⟩).wellFormed = true ∧
      requestFrame (.unknownKind .t ⟨0x11, 1, 2, 3, 4, 5, 6, 7⟩) = some (.t, ⟨0x11, 1, 2, 3, 4, 5, 6, 7⟩) ∧
      (Instr.place .c 1 14 500 2 1 60).wellFormed = true ∧
      requestFrame (.place .c 1 14 500 2 1 60) = some (.c, ⟨0x01, 1, 14, 0xF4, 0x01, 0x21, 60, 0⟩) := by decide +kernel

theorem witness_RegisterOkKept :
    RegisterOk { full with pending := [.place .p 1 5 1 3 1 0] } ∧
      ∃ t, step { full with pending := [.place .p 1 5 1 3 1 0] } = .next t :=
  ⟨by unfold RegisterOk; decide +kernel, _, rfl⟩

theorem cut_safe_cutState : CutSafe cutState :=
  ⟨by decide +kernel, fun _ => ⟨rfl, fun d => by cases d <;> rfl⟩, by unfold DrainSafe; decide +kernel⟩

theorem witness_CutSafeKept :
    CutSafe { cutState with pending := [.deploy .p 1 0] } ∧ ∃ t, step { cutState with pending := [.deploy .p 1 0] } = .next t :=
  ⟨cut_safe_cutState, _, rfl⟩

theorem witness_RangesBoundsAndFaultLevelKept :
    (let s := { quiet with
      pending := [.sweepCompletion calm []], acct := { quiet.acct with fullCounter := 1200, cutCounter := 49 } }
     AccountRanges s ∧ ∃ t, step s = .next t) ∧
    (let s := { quiet with pending := [.uartByteReceived .t 0xA5] }
     LinkBounds s ∧ ∃ t, step s = .next t) ∧
    (let s := { quiet with pending := [.configure .p 1 0x49 0 7] }
     HandlingOver s ∧ ∃ t, step s = .next t) ∧
    (let s := { quiet with pending := [.shortSilence .p] }
     (s.phase = .run → FaultFormed s) ∧ ∃ t, step s = .next t ∧ t.phase = .run) :=
  ⟨⟨by unfold AccountRanges; decide +kernel, _, rfl⟩,
    ⟨⟨fun l => by
        cases l
        all_goals exact ⟨by decide +kernel, by decide +kernel, fun bs h => by cases h⟩, by decide +kernel⟩, _, rfl⟩,
    ⟨by unfold HandlingOver; decide +kernel, _, rfl⟩,
    ⟨fun _ => by unfold FaultFormed; decide +kernel, _, rfl, by decide +kernel⟩⟩

/-- In RUN and in LOADING. -/
theorem witness_LevelsFollowRegisterAndOrders :
    (OrdersFormed started ∧ LevelsFormed started ∧ started.phase = .run ∧
      ∃ t, step { started with pending := [.place .p 1 5 1 3 1 0] } = .next t ∧ t.phase = .run) ∧
    (let s := { State.reset with pending := [.settingsLoadTimeout] }
     OrdersFormed s ∧ s.phase ≠ .run ∧ ∃ t, step s = .next t ∧ t.phase = .run) :=
  ⟨⟨by unfold OrdersFormed; decide +kernel, by unfold LevelsFormed OrdersFormed; decide +kernel, by decide +kernel, _, rfl,
      by decide +kernel⟩,
    ⟨by unfold OrdersFormed; decide +kernel, by decide +kernel, _, rfl, by decide +kernel⟩⟩

/-- The default settings are in range. -/
theorem default_settings_ok : EnergySettingsOk Settings.default ∧ OtherSettingsOk Settings.default := by
  constructor
  · refine ⟨by decide +kernel, by decide +kernel, by decide +kernel, fun k => ?_, by decide +kernel, by decide +kernel⟩
    cases k <;> decide +kernel
  · refine ⟨by decide +kernel, fun d => ?_, by decide +kernel, by decide +kernel, by decide +kernel, by decide +kernel, fun l => ?_,
      by decide +kernel⟩
    · cases d <;> decide +kernel
    · cases l <;> decide +kernel

theorem witness_SettingsInRangeKept :
    SettingsOk { quiet with pending := [.configure .p 1 0x01 0 0xFFFFFF] } ∧
      ∃ t, step { quiet with pending := [.configure .p 1 0x01 0 0xFFFFFF] } = .next t :=
  ⟨default_settings_ok, _, rfl⟩

/-! ### Witnesses: register -/

theorem ready_quiet (l : Link) : Ready l quiet := by cases l <;> exact ⟨rfl, rfl, rfl, rfl, rfl⟩

/-- Record 5 with the FORCE slots 3 and 4, record 12 with the CAP slots 1, 6 and 7, of which 6 and 7 are the lowest. -/
def ordering : State :=
  let slot := fun (r : RecNo) (a : SlotAction) (level : Nat) =>
    ({ enabled := true, condition := .ignitionOn, target := r, action := a, level := level } : Slot)
  let off : Slot := { slot 3 .force 0 with enabled := false }
  { withRow 12 (fun x => { x with wanted := 900 }) quiet with
    mu := { quiet.mu with ign := true }
    set := { quiet.set with slots :=
      #v[off, slot 12 .cap 500, off, slot 5 .force 1000, slot 5 .force 0, off, slot 12 .cap 300, slot 12 .cap 300] } }

theorem names_ordering (a : SlotAction) (r : RecNo) (i : Fin 8) :
    Names ordering a r i ↔ (tget ordering.set.slots i).enabled = true ∧ (tget ordering.set.slots i).action = a ∧
      (tget ordering.set.slots i).target = r := by
  have h : (tget ordering.set.slots i).condition = .ignitionOn := by revert i; decide +kernel
  unfold Names
  rw [h]
  exact ⟨fun ⟨x, _, y⟩ => ⟨x, y⟩, fun ⟨x, y⟩ => ⟨x, ⟨rfl, rfl⟩, y⟩⟩

/-- An entry decided by precedence and by the tail, targets without an entry, a slot of each action, a record that no slot
names and one that none can name, and the last record that one can. -/
theorem witness_EntriesResolveAndOrdersForm :
    (let es : List Entry := [{ entryP with origin := .c }, entryP, { entryP with origin := .t, prec := 1, level := 0 }]
     es = [{ entryP with origin := .c }] ++ entryP :: [{ entryP with origin := .t, prec := 1, level := 0 }] ∧
       (∀ x ∈ [{ entryP with origin := .c }], x.target = entryP.target → x.prec ≤ entryP.prec) ∧
       (∀ x ∈ [{ entryP with origin := .t, prec := 1, level := 0 }], x.target = entryP.target → x.prec < entryP.prec) ∧
       ∀ n ∈ [3, 4, 22, 23, 24], ∀ e ∈ es, e.target ≠ n) ∧
    (let s := ordering
     (Names s .force 5 3 ∧ ∀ j, Names s .force 5 j → (3 : Fin 8).val ≤ j.val) ∧
       (Names s .cap 12 6 ∧ (∀ i, ¬Names s .force 12 i) ∧
         (if recKind 12 = .dimmed then (s.row 12).wanted else 0) = (s.row 12).wanted ∧
         ∀ j, Names s .cap 12 j → (tget s.set.slots 6).level < (tget s.set.slots j).level ∨
           (tget s.set.slots 6).level = (tget s.set.slots j).level ∧ (6 : Fin 8).val ≤ j.val) ∧
       ∀ i a, ¬Names s a 19 i) := by
  simp only [names_ordering]
  exact ⟨by decide +kernel, by decide +kernel, by decide +kernel,
    fun i a => by cases a <;> revert i <;> decide +kernel⟩

/-- A replacement in a full register, of the last target and hold code; a new entry in the last free place. -/
theorem witness_PlacePutsEntryAtTail :
    (Ready .p full ∧ (24 : Byte).toNat ≤ 24 ∧ full.admits .p (full.targetZone 24) = true ∧ functionOwned 24 = false ∧
      (2 : BitVec 4).toNat ≤ 2 ∧ ∃ e ∈ full.reg, e.origin = Link.p.origin ∧ e.target = 24) ∧
    (Ready .t { full with reg := full.reg.take 31 } ∧ (3 : Byte).toNat ≤ 24 ∧ full.admits .t (full.targetZone 3) = true ∧
      functionOwned 3 = false ∧ (full.reg.take 31).length < 32) := by
  unfold Ready; decide +kernel

/-- One refusal of each kind: 25 is the first bad target, 3 the first bad hold code, 0 and 21 are function-owned, scene 8
the first without a list, 20 the first record without protection, 22 the first index without a record, 2 the first
without a controller; for READ the first item and the first indices that name nothing, and the first part after the last. -/
theorem witness_OwnerRefusalsChangeNothing :
    Ready .p full ∧ Ready .t full ∧ 24 < (25 : Byte).toNat ∧
      (full.admits .p (full.targetZone 0) = true ∧ functionOwned 0 = true) ∧
      (full.admits .p (full.targetZone 21) = true ∧ functionOwned 21 = true) ∧
      (full.admits .p (full.targetZone 24) = true ∧ functionOwned 24 = false ∧ 2 < (3 : BitVec 4).toNat) ∧
      (full.admits .t (full.targetZone 3) = true ∧ functionOwned 3 = false ∧ 32 ≤ full.reg.length ∧
        ∀ e ∈ full.reg, ¬(e.origin = Link.t.origin ∧ e.target = 3)) ∧
      (7 < (8 : Byte).toNat ∧ (2 : Byte).toNat = (2 : Fin 8).val ∧
        (∀ p ∈ tget full.set.light.scenes 2, full.admits .t (full.cfg (lightRec p.channel)).zone = true) ∧
        32 < full.reg.length + ((tget full.set.light.scenes 2).filter fun p =>
          !(full.reg.any fun e => e.origin == Link.t.origin && e.target == 12 + p.channel.val)).length) ∧
      (full.admits .p .service = true ∧
        ({ full with test := { full.test with seq := .running 12 .testing } } : State).test.seq ≠ .idle ∧
        cutState.admits .p .service = true ∧ cutState.test.seq = .idle ∧ cutState.acct.bank = .cut ∧ Ready .p cutState) ∧
      (21 < (22 : Byte).toNat ∧ (20 : Byte).toNat = (20 : RecNo).val ∧ full.admits .p (full.cfg 20).zone = true ∧
        1 < (2 : Byte).toNat) ∧
      (0x10 < (0x11 : Byte).toNat ∧ full.reg.length ≤ (32 : Byte).toNat ∧ 5 < (6 : Byte).toNat) ∧
      (let x : Snapshot := { item := 0x0D, index := 0, content := [1, 2, 3, 4] }
       let s := withLink .p (fun k => { k with snapshot := some x }) full
       Ready .p s ∧ (s.lk .p).snapshot = some x ∧ x.item = 0x0D ∧ x.index = indexFor 0x0D 0 ∧
         x.content.length ≤ 4 * (1 : Byte).toNat) ∧ (full.lk .p).snapshot = none := by
  unfold Ready; decide +kernel

theorem witness_WithdrawRemovesOwnEntries :
    (Ready .p full ∧ (24 : Byte).toNat ≤ 24 ∧ (full.set.links.get .p).configRight = true) ∧
      Ready .p warm ∧ resolveIn warm.set warm.reg 22 = (3, .p) ∧
      resolveIn warm.set (warm.reg.filter fun e => !(e.origin == .p && e.target == 22)) 22 = (0, .c) ∧
      resolveIn warm.set (warm.reg.filter fun e => !(e.origin == .p && e.target == 24)) 24 = (0, .rest) := by
  unfold Ready; decide +kernel

theorem witness_SecondAgesTimedEntries :
    held.phase = .run ∧ (∀ e ∈ held.reg, e.hold ≠ .timed 0) ∧ ∃ e ∈ held.reg, e.hold = .timed 1 := by decide +kernel

/-- Scene 0, with 8 pairs, into the last 8 places; scene 3, which is empty, into a full register. -/
theorem witness_ScenePlacesItsPairs :
    (let s := roomFor8
     let pairs := tget s.set.light.scenes 0
     let own := fun (e : Entry) => e.origin == Link.p.origin && pairs.any fun p => e.target == 12 + p.channel.val
     Ready .p s ∧ (2 : BitVec 4).toNat ≤ 2 ∧ (pairs.map (·.channel)).Nodup ∧ (∀ p ∈ pairs, p.level ≤ 1000) ∧
       (∀ p ∈ pairs, s.admits .p (s.cfg (lightRec p.channel)).zone = true) ∧
       s.reg.length + pairs.length ≤ 32 + (s.reg.filter own).length ∧ s.reg.length ≤ 32 ∧
       s.reg.Pairwise (fun a b => ¬(a.origin = b.origin ∧ a.target = b.target))) ∧
    (Ready .p full ∧ tget full.set.light.scenes 3 = [] ∧ full.reg.length ≤ 32) := by
  unfold Ready; decide +kernel

/-! ### Witnesses: links -/

/-- A reading of the mask and a setting of it; an event that turns the attention of link C. -/
theorem witness_EventsAndAttentionFollowSets :
    Ready .p quiet ∧ (1 : Byte).getLsbD 0 = true ∧ (2 : Byte).getLsbD 0 = false ∧
      (let s := withLink .c (fun k => { k with mask := 0x0001 }) quiet
       s.phase = .run ∧ (s.lk .c).live ≠ .off ∧ (s.lk .c).pending &&& (s.lk .c).mask = 0 ∧
         ((s.lk .c).pending ||| Event.grant.bit) &&& (s.lk .c).mask ≠ 0) := by unfold Ready; decide +kernel

theorem witness_KeepaliveRestartsTimerAndReturnsLink :
    Ready .t quiet ∧
      (let s := withLink .t (fun k => { k with live := .lapsed }) quiet
       s.phase = .run ∧ (s.lk .t).live = .lapsed ∧ (s.lk .t).rxQueue = [] ∧ s.blocked .t = false ∧ s.handling = none) := by
  unfold Ready; decide +kernel

/-- 250 is not clamped and 251 is; 2 does not move and 3 does; a known speed ages, with IGN on and off; a deployed step
stows, and one in FAULT does not. -/
theorem witness_VehicleSpeedIsKnownUntilItAges :
    (Ready .c quiet ∧ quiet.vehicle.speed = none) ∧
      (let s := { quiet with vehicle := { speed := some 2, age := 0 } }
       Ready .c s ∧ s.vehicle.speed ≠ none ∧ (s.vehicleMoving != decide (3 ≤ min 250 (2 : BitVec 16).toNat)) = false ∧
         (s.vehicleMoving != decide (3 ≤ min 250 (3 : BitVec 16).toNat)) = true ∧ s.phase = .run ∧
         s.vehicle.speed.isSome = true ∧ s.vehicleMoving = false ∧ s.mu.ign = false) ∧
      (∀ x ∈ [MotionState.deployed, .fault .stall],
        (driving x).phase = .run ∧ (driving x).vehicle.speed.isSome = true ∧ (driving x).mu.ign = true) ∧
      (StowsNot (driving (.fault .stall)) ∧ ¬StowsNot (driving .deployed)) ∧
      (CutSafe quiet ∧ ∀ i : Fin 8, ¬((tget quiet.set.slots i).enabled = true ∧
        (tget quiet.set.slots i).condition = .vehicleMoving ∧ (tget quiet.set.slots i).target = 3)) ∧
      ¬ 250 < (250 : BitVec 16).toNat ∧ 250 < (251 : BitVec 16).toNat := by
  refine ⟨by unfold Ready; decide +kernel, by unfold Ready; decide +kernel, by decide +kernel, ?_, ?_, by decide, by decide⟩
  rotate_left
  · exact ⟨⟨by decide +kernel, fun h => absurd h (by decide +kernel), by unfold DrainSafe; decide +kernel⟩, by decide +kernel⟩
  exact ⟨Or.inl ⟨.stall, rfl⟩, by rintro (⟨c, h⟩ | h | ⟨-, h⟩ | ⟨-, h⟩) <;> cases h⟩

/-- The register count, four bytes in one part; the last part of a held snapshot of five bytes. -/
theorem witness_ReadAnswersFromSnapshot :
    (Ready .p quiet ∧
      ((State.itemContent
        { quiet with
          links := { c := afterFrame .p 0x06 quiet .c, p := afterFrame .p 0x06 quiet .p, t := afterFrame .p 0x06 quiet .t } }
        0x0A (indexFor 0x0A 0).toNat).map List.length) = some 4) ∧
      (let x : Snapshot := { item := 0x0D, index := 0, content := [1, 2, 3, 4, 5] }
       let s := withLink .p (fun k => { k with snapshot := some x }) quiet
       Ready .p s ∧ (1 : Byte) ≠ 0 ∧ (s.lk .p).snapshot = some x ∧ x.item = 0x0D ∧ x.index = indexFor 0x0D 7 ∧
         4 * (1 : Byte).toNat < x.content.length) := by
  unfold Ready; decide +kernel

/-- An entry of the register; the kinds of the last incident group. -/
theorem witness_ReadItemsHoldTheirFields :
    held.reg[1]? = some entryP ∧ (5, 18, 4) ∈ [(0, 0, 3), (1, 3, 3), (2, 6, 3), (3, 9, 5), (4, 14, 4), (5, 18, 4)] ∧
      ([18, 19, 20, 21] : List (Fin 22)).map (·.val) = List.range' 18 4 := by decide +kernel

theorem witness_SilenceIsReportedAndLapsesLink :
    (let s := withLink .t (fun k => { k with timer := some 0 }) held
     s.phase = .run ∧ (s.lk .t).live ≠ .off ∧ (s.lk .t).timer.isSome = true ∧ (s.lk .t).shortTaken = false ∧
       (s.lk .t).longTaken = false ∧ (s.lk .t).live = .act) ∧
    (let s := withLink .t (fun k => { k with timer := some 0, live := .watch }) held
     s.phase = .run ∧ (s.lk .t).timer.isSome = true ∧ (s.lk .t).longTaken = false ∧ (s.lk .t).live = .watch) ∧
    (let s := withLink .p (fun k => { k with timer := some 0 }) warm
     s.phase = .run ∧ (s.lk .p).timer.isSome = true ∧ (s.lk .p).longTaken = false ∧ (s.lk .p).live = .act ∧
       s.reg.filter (fun e => !(e.origin == .p && e.hold == .tethered)) ≠ s.reg) := by
  decide +kernel

/-- Three frames queued leave room and four do not; a receiver that hunts, one with 7 bytes, either start byte; the own
identifier, the next one and a remote frame; a frame of seven bytes; a waiting reply. -/
theorem witness_LinesReceiveFrames :
    (let s := withLink .p (fun k => { k with rxQueue := List.replicate 3 ⟨8, 0, 0, 0, 0, 0, 0, 0⟩ }) quiet
     Link.p ≠ .c ∧ s.phase ≠ .resetLow ∧ (s.lk .p).part = none ∧ (0x07 : Byte) = crc8 (Frame.bytes ⟨0, 0, 0, 0, 0, 0, 0, 1⟩) ∧
       (s.lk .p).rxQueue.length < 4 ∧ (0x08 : Byte) ≠ crc8 (Frame.bytes ⟨0, 0, 0, 0, 0, 0, 0, 1⟩)) ∧
    (let s := withLink .p (fun k => { k with rxQueue := List.replicate 4 ⟨8, 0, 0, 0, 0, 0, 0, 0⟩ }) quiet
     s.phase ≠ .resetLow ∧ (s.lk .p).part = none ∧ 4 ≤ (s.lk .p).rxQueue.length) ∧
    (let s := withLink .t (fun k => { k with part := some [1, 2, 3, 4, 5, 6, 7] }) quiet
     s.phase ≠ .resetLow ∧ (s.lk .t).part = some [1, 2, 3, 4, 5, 6, 7] ∧ [1, 2, 3, 4, 5, 6, 7].length < 8) ∧
    (0xA4 : Byte) ≠ 0xA5 ∧
    (let own := fun (id : BitVec 29) (remote : Bool) => remote = false ∧ id = BitVec.ofNat 29 (0x0CF0A100 + quiet.can.node)
     quiet.phase ≠ .resetLow ∧ own 0x0CF0A100 false ∧ ¬own 0x0CF0A101 false ∧ ¬own 0x0CF0A100 true ∧
       [8, 0, 0, 0, 0, 0, 0, 0] = Frame.bytes ⟨8, 0, 0, 0, 0, 0, 0, 0⟩ ∧ (quiet.lk .c).rxQueue.length < 4 ∧
       ([8, 0, 0, 0, 0, 0, 0] : List Byte).length ≠ 8) ∧
    (let s := withLink .c (fun k => { k with rxQueue := List.replicate 4 ⟨8, 0, 0, 0, 0, 0, 0, 0⟩ }) quiet
     s.phase ≠ .resetLow ∧ 4 ≤ (s.lk .c).rxQueue.length) ∧
    (after (.keepalive .c 1) quiet).can.replies.length = 1 := by decide +kernel

/-- A LAPSED link; a full controller; another frame at the head with three and with four queued; the request's own frame
at the head, alone and before another, on a link in ACT and on one that is OFF. -/
theorem witness_QueuedFramesAndLapsedLinks :
    let i : Instr := .withdrawAll .c 7
    let f : Frame := ⟨0x03, 7, 0, 0, 0, 0, 0, 0⟩
    let g : Frame := ⟨0x08, 1, 0, 0, 0, 0, 0, 0⟩
    let ok := fun (s : State) => s.phase = .run ∧ s.handling = none
    let queued := fun (q : List Frame) => withLink .c (fun k => { k with rxQueue := q }) quiet
    let busy := fun (s : State) => { s with can := { s.can with replies := List.replicate 4 { id := none, payload := g } } }
    i.wellFormed = true ∧ requestFrame i = some (.c, f) ∧ f.known = true ∧
      (let s := withLink .c (fun k => { k with live := .lapsed }) quiet
       ok s ∧ (s.lk .c).live = .lapsed ∧ (s.lk .c).rxQueue = [] ∧ s.blocked .c = false) ∧
      (ok (busy quiet) ∧ (busy quiet).blocked .c = true ∧ ((busy quiet).lk .c).rxQueue = []) ∧
      (ok (queued [g, f, f]) ∧ decodeRequest .c g ≠ i ∧ [f, f].length < 3 ∧ ok (queued [g, f, f, f]) ∧ 3 ≤ [f, f, f].length) ∧
      (decodeRequest .c f = i ∧ (busy (queued [f])).blocked .c = true ∧ (queued [f, g]).blocked .c = false ∧
        ((queued [f, g]).lk .c).rxQueue = f :: [g] ∧ ((queued [f]).lk .c).rxQueue = f :: [] ∧
        ((queued [f, g]).lk .c).live ≠ .off ∧
        ((withLink .c (fun k => { k with live := .off }) (queued [f])).lk .c).live = .off) := by decide +kernel

/-- The kinds next to the known ones, the first codes that name nothing, and a WITHDRAW_ALL on link T. -/
theorem witness_SupervisorRefusesBeforeOwner :
    (Ready .p quiet ∧ (0x00 : Byte).toNat = 0 ∧ 0x10 < (0x11 : Byte).toNat ∧ 5 < (6 : Byte).toNat ∧ 4 < (5 : Byte).toNat ∧
      (quiet.set.links.get .p).configRight = true) ∧
    (let i : Instr := .withdrawAll .t 7
     let f : Frame := ⟨0x03, 7, 0, 0, 0, 0, 0, 0⟩
     let ok := fun (s : State) => (s.lk .t).rxQueue = [] ∧ s.blocked .t = false ∧ s.handling = none
     i.wellFormed = true ∧ requestFrame i = some (.t, f) ∧ f.known = true ∧ f.kind ≠ 0x06 ∧ f.kind ≠ 0x07 ∧ f.kind ≠ 0x08 ∧
       (ok { quiet with phase := .resetLow } ∧ ({ quiet with phase := .resetLow } : State).phase = .resetLow) ∧
       (let s := withLink .t (fun k => { k with live := .off }) quiet
        ok s ∧ (s.lk .t).live = .off) ∧
       (ok State.reset ∧ State.reset.phase = .loading false ∧ (State.reset.lk .t).live = .act) ∧
       (let s := withLink .t (fun k => { k with live := .watch }) quiet
        ok s ∧ s.phase = .run ∧ (s.lk .t).live = .watch)) := by
  refine ⟨by unfold Ready; decide +kernel, by decide +kernel⟩

/-- Link P with an empty membership. -/
def noZone : State :=
  { quiet with set := { quiet.set with links := quiet.set.links.set .p { quiet.set.links.get .p with membership := 0 } } }

/-- The request has a form and no zone in the membership of link P. -/
def Unheard (target : Option Nat) (i : Instr) : Prop := i.wellFormed = true ∧ Unadmitted .p noZone target i

/-- A SAVE without the right, a VEHICLE from link P, and each request without its zone in the membership. -/
theorem witness_WithoutRightIsNotPermitted :
    (Ready .c quiet ∧ Ready .p quiet ∧ (Instr.save .c 1).wellFormed = true ∧
      requestFrame (.save .c 1) = some (.c, ⟨0x0D, 1, 0, 0, 0, 0, 0, 0⟩) ∧ (quiet.set.links.get .c).configRight = false ∧
      (Instr.vehicle .p 1 80).wellFormed = true ∧ requestFrame (.vehicle .p 1 80) = some (.p, ⟨0x09, 1, 80, 0, 0, 0, 0, 0⟩) ∧
      Link.p ≠ .c ∧ quiet.log.capture = none) ∧
    (Ready .p noZone ∧ Unheard (some 24) (.place .p 1 24 1 0 0 0) ∧ Unheard none (.scene .p 1 2 0 2 0) ∧
      Unheard (some 20) (.deploy .p 1 0) ∧ Unheard (some 21) (.stow .p 1 1) ∧ Unheard none (.halt .p 1 2) ∧
      Unheard (some 20) (.extendTo .p 1 0 600) ∧ Unheard (some 20) (.unknownKind .p ⟨0x04, 1, 0, 4, 0, 0, 0, 0⟩) ∧
      Unheard (some 21) (.clearLoadRecord .p 1 21) ∧ Unheard none (.clearHeater .p 1) ∧ Unheard none (.clearPump .p 1) ∧
      Unheard (some 21) (.clearMotion .p 1 1) ∧ Unheard none (.selftest .p 1) ∧ Unheard none (.closeDrain .p 1)) := by
  unfold Ready
  refine ⟨by decide +kernel, by decide +kernel, ?_, ?_, ?_, ?_, ?_, ?_, ?_, ?_, ?_, ?_, ?_, ?_, ?_⟩ <;>
    (unfold Unheard Unadmitted; dsimp only; decide +kernel)

/-- An UNKNOWN speed, and a known one with IGN on. -/
theorem witness_ResetLinksRestoresLinks :
    (Ready .p quiet ∧ (quiet.set.links.get .p).configRight = true ∧ quiet.vehicle.speed = none) ∧
      (let s := driving .deployed
       Ready .p s ∧ (s.set.links.get .p).configRight = true ∧ s.vehicle.speed.isSome = true ∧ s.mu.ign = true) := by
  unfold Ready; decide +kernel

/-! ### Witnesses: sweeps -/

/-- An order that names a block twice and leaves others out; a sweep that changes IGN, and one that changes nothing. -/
theorem witness_SweepRunsEachBlockOnce :
    normalOrder [.water, .account, .water] =
        [.water, .account, .allocator, .charge, .protection, .climate, .motionA, .motionS, .lighting] ∧
      calm.wellFormed = true ∧ quiet.phase = .run ∧ quiet.mu.ign ≠ ({ calm with ign := true } : Sweep).ign ∧
      ¬(quiet.mu.ign ≠ calm.ign ∨ quiet.mu.engine ≠ calm.engine) ∧ OrdersFormed started := by
  refine ⟨by decide +kernel, by decide +kernel, by decide +kernel, by decide +kernel, by decide +kernel, ?_⟩
  unfold OrdersFormed; decide +kernel

/-- A run state with the account at a counter. -/
def withAcct (f : Account → Account) (s : State) : State := { s with acct := f s.acct }

/-- The 1200th full count at I = 0 and V = V_full; I_tail is 200 for 100 Ah; 10 × 360,000,000 is the drift limit. -/
theorem witness_SweepCountsCharge :
    (let m := { calm with bankV := 14000, shunt := 199 }
     let s := withAcct (fun a => { a with fullCounter := 1199 }) quiet
     m.wellFormed = true ∧ s.acct.loaded = true ∧ s.acct.copy.vFull ≤ m.bankV ∧ 0 ≤ m.shunt ∧ m.shunt < 2 * (s.acct.copy.cNom : Int) ∧
       s.acct.fullCounter = 1199) ∧
    (let m := { calm with bankV := 14000, shunt := 200 }
     m.wellFormed = true ∧ quiet.acct.loaded = true ∧ ¬(m.shunt < 2 * (quiet.acct.copy.cNom : Int))) ∧
    (let m := { calm with shunt := -1 }
     let s := withAcct (fun a => { a with throughput := 3600000000 }) quiet
     m.wellFormed = true ∧ s.acct.loaded = true ∧ s.acct.sync = .synced ∧ s.phase ≠ .resetLow ∧
       10 * (s.acct.copy.cNom * 3600000) < s.acct.throughput + 1) := by decide +kernel

theorem witness_SweepGaugesBank :
    Ready .p quiet ∧ (quiet.set.links.get .p).configRight = true ∧ quiet.acct.loaded = true ∧
      (([40, 39, 20, 19, 0, -1, -20, -21, -40, -41] : List Int).all fun t => Sweep.wellFormed { calm with tBank := t }) = true := by
  unfold Ready; decide +kernel

/-- The 50th count below 10800 and the 49th, 10800 itself, V_hard of 10200 and one below it, the 100th and 99th recovery
counts, 11300 itself. -/
theorem witness_SweepProtectsBank :
    (let m := { calm with bankV := 10799, minV := 10799 }
     let s := withAcct (fun a => { a with cutCounter := 49 }) quiet
     m.wellFormed = true ∧ s.acct.loaded = true ∧ s.acct.bank ≠ .cut ∧ m.bankV < 10800 ∧ 49 ≤ s.acct.cutCounter) ∧
    (let m := { calm with bankV := 10799, minV := 10200 }
     m.wellFormed = true ∧ quiet.acct.bank ≠ .cut ∧ ¬ 49 ≤ quiet.acct.cutCounter ∧ ¬ m.minV < 10200) ∧
    (let m := { calm with minV := 10199 }
     m.wellFormed = true ∧ quiet.acct.hardPath = .armed ∧ m.minV < 10200 ∧ quiet.test.discard = false) ∧
    (let m := { calm with bankV := 11301, minV := 11301, chargeIn := 1 }
     let s := withAcct (fun a => { a with bank := .cut, recoveryCounter := 99 }) { quiet with chg := { quiet.chg with shoreEn := true } }
     m.wellFormed = true ∧ s.acct.loaded = true ∧ s.acct.bank = .cut ∧ 10800 + 500 < m.bankV ∧ s.chg.shoreEn = true ∧
       0 < m.chargeIn ∧ 99 ≤ s.acct.recoveryCounter ∧ s.phase ≠ .resetLow ∧
       (withAcct (fun a => { a with recoveryCounter := 98 }) s).acct.recoveryCounter < 99) ∧
    (let m := { calm with bankV := 11300, minV := 11300, chargeIn := 1 }
     m.wellFormed = true ∧ cutState.acct.bank = .cut ∧ ¬ 10800 + 500 < m.bankV) := by decide +kernel

/-- 111 and 100 are hot, 110 and 99 are not; −1 and 3 are cold, 0 and 4 are not. -/
theorem witness_SweepChoosesPermission :
    quiet.phase = .run ∧ quiet.chg.permission = .allowed ∧ quiet.acct.copy.chemistry = .lead ∧ quiet.chg.absorb = false ∧
      (([111, 110, 100, 99, 4, 3, 0, -1] : List Int).all fun t => Sweep.wellFormed { calm with tBank := t }) = true ∧
      (let s := withAcct (fun a => { a with copy := { a.copy with chemistry := .lithium } })
        { quiet with chg := { quiet.chg with permission := .coldHold, absorb := true } }
       s.phase = .run ∧ s.acct.copy.chemistry = .lithium ∧ s.chg.permission = .coldHold ∧ s.chg.absorb = true ∧
         s.set.charge.holdRelease ≤ s.acct.socPm) ∧
      ({ quiet with chg := { quiet.chg with permission := .hotHold } } : State).phase = .run := by decide +kernel

/-- A first sweep, a sweep after it, a held sweep, a first sweep that is held; orders as they should be. -/
theorem witness_SweepReadsTanks :
    calm.wellFormed = true ∧ quiet.phase = .run ∧ quiet.water.started = false ∧ quiet.water.refill = true ∧
      (let s := { quiet with
        vehicle := { speed := some 3, age := 0 }
        water := { quiet.water with window := [1, 2, 3, 4, 5], refill := false, started := true } }
       s.phase = .run ∧ s.water.held = false ∧ s.water.refill = false ∧ s.water.window ≠ [] ∧ s.water.started = true ∧
         s.vehicle.speed = some 3) ∧
      (quiet.vehicle.speed = none ∧ Sweep.wellFormed { calm with ign := true } = true) ∧
      started.phase = .run ∧ OrdersFormed started := by
  unfold OrdersFormed; decide +kernel

theorem witness_PoolBoundsGrantedLoads : quiet.phase = .run ∧ quiet.acct.bank ≠ .cut ∧ cutState.phase = .run ∧ cutState.acct.bank = .cut := by
  decide +kernel

/-- A pass with room for all, one with too small a pool, one with the bank CUT; a light, a record of class 3, one that
cannot be served, and record 1 settled. -/
theorem witness_PassSharesPoolAmongClasses :
    (∀ c, 1 ≤ quiet.set.alloc.weights.get c) ∧
      (driven.phase = .run ∧ driven.allocPass.alloc.pool = 15000 ∧ drawOf driven (inClass driven 1) = 400) ∧
      (let s := withAcct (fun a => { a with iCeiling := 100 }) driven
       s.phase = .run ∧ s.allocPass.alloc.pool = 100) ∧
      (let s := withAcct (fun a => { a with bank := .cut }) (withRow 12 (fun x => { x with ordered := 500, wanted := 500 })
        (withRow 2 (fun x => { x with ordered := 1000, wanted := 1000 }) driven))
       s.acct.bank = .cut ∧ inClass s 1 12 = true ∧ isDimmed 12 = true ∧ (s.row 12).alloc = .granted ∧ (s.row 12).join = false ∧
         inClass s 3 2 = true ∧ inClass s 1 5 = true) ∧
      servable (withRow 5 (fun x => { x with prot := .tripped }) quiet) 5 = false ∧ Settled quiet 5 ∧
      Settled (withRow 1 (fun x => { x with wanted := 1000, wantedBy := .function }) quiet) 1 :=
  ⟨fun c => by cases c <;> decide, by decide +kernel, by decide +kernel, by decide +kernel, by decide +kernel,
    .inl (by decide), .inr (by decide +kernel)⟩

/-- One class before each part: room for all; too little, so that a light is dimmed to 750, and then so little that
record 5 is SHED; one joiner with room and without; each candidate, short of the delay and at it; record 1 waiting. -/
theorem witness_PassFitsClassToGrant :
    let pool := fun (n : Nat) (s : State) => withAcct (fun a => { a with iCeiling := n }) s
    let grant := fun (c : LoadClass) (s : State) => (s.allocPass.alloc.cls.get c).grant
    let old := fun (c : LoadClass) (f : ClassAlloc → ClassAlloc) (s : State) =>
      { s with alloc := { s.alloc with cls := s.alloc.cls.set c (f (s.alloc.cls.get c)) } }
    let on := fun (r : RecNo) (s : State) => withRow r (fun x => { x with wanted := 1000, ordered := 1000, granted := 1000 }) s
    let joins := fun (s : State) (c : LoadClass) (r : RecNo) => inClass s c.no r && (s.row r).join
    let waits := fun (s : State) (c : LoadClass) (r : RecNo) =>
      inClass s c.no r && (s.row r).alloc == .shed && !(s.row r).join
    (driven.phase = .run ∧ driven.acct.bank ≠ .cut ∧ (driven.alloc.cls.get .c1).dim = 1000 ∧ grant .c1 driven = 400 ∧
        inClass driven 1 5 = true ∧ (∀ r, joins driven .c1 r = false)) ∧
      (let s := on 12 quiet
       expected s 12 = 200 ∧ inClass s 1 12 = true ∧ grant .c1 (pool 150 s) = 150 ∧ grant .c1 (pool 149 s) = 149) ∧
      (grant .c1 (pool 399 driven) = 399 ∧ expected driven 5 = 400) ∧
      (let s := withRow 5 (fun x => { x with join := true }) driven
       joins s .c1 5 = true ∧ (∀ r, joins s .c1 r = true → r = 5) ∧ grant .c1 (pool 400 s) = 400 ∧ grant .c1 (pool 399 s) = 399) ∧
      (let s := old .c1 (fun k => { k with dim := 750, cand := .dim 1000, counter := 29 }) (on 12 quiet)
       (s.alloc.cls.get .c1).dim < 1000 ∧ s.set.alloc.restoreDelay ≤ 29 + 1 ∧ grant .c1 s = 200 ∧ (∀ r, joins s .c1 r = false)) ∧
      (let s := old .c2 (fun k => { k with cand := .record 3, counter := 28 })
        (withRow 3 (fun x => { x with wanted := 1000, ordered := 1000, alloc := .shed }) quiet)
       waits s .c2 3 = true ∧ (∀ r, waits s .c2 r = true → (3 : RecNo).val ≤ r.val) ∧ 28 + 1 < s.set.alloc.restoreDelay ∧
         (s.alloc.cls.get .c2).dim = 1000) ∧
      (∀ r, waits driven .c1 r = false) ∧
      (let s := withRow 1 (fun x => { x with wanted := 1000, wantedBy := .function, ordered := 1000, join := true })
        { quiet with clim := { quiet.clim with heater := .waitBudget } }
       inClass s 2 1 = true ∧ joins s .c2 1 = true ∧ s.clim.heater = .waitBudget ∧ (s.allocPass.row 1).alloc = .granted ∧
         (s.allocPass.row 1).granted = 1000) := by decide +kernel

/-- An opening door in a part whose lights may be lit, with room for eight entries. -/
theorem witness_LightsFadeAndDoorIsNoted :
    let s := { quiet with light := { quiet.light with door := some false }, mu := { quiet.mu with door := true } }
    s.phase = .run ∧ CutSafe s ∧ s.light.door = some false ∧ s.mu.door = true ∧ s.reg.length ≤ 24 ∧
      s.set.light.courtesySet.getLsbD 6 = true :=
  ⟨rfl, ⟨by decide +kernel, (fun h => by cases h), by unfold DrainSafe; decide +kernel⟩, rfl, rfl, by decide +kernel,
    by decide +kernel⟩

/-! ### Witnesses: power, settings, account -/

/-- RST_N low. -/
def low : State := { quiet with phase := .resetLow }

theorem witness_PowerOnAndRstNResetBlocks : quiet.phase ≠ .resetLow ∧ low.phase = .resetLow := by decide

/-- Loads by an accepted image, by a rejected one and by none, first after power-on and after RST_N. -/
theorem witness_SettingsLoadEntersRun :
    State.reset.phase = .loading false ∧ State.reset.acct.loaded = false ∧
      ({ quiet with phase := .loading true } : State).phase = .loading true ∧ quiet.acct.loaded = true ∧
      parseImage (imageOf Settings.default) = some Settings.default ∧ parseImage [] = none :=
  ⟨by decide +kernel, by decide +kernel, by decide +kernel, by decide +kernel, default_image_accepted, by decide +kernel⟩

theorem witness_SaveWritesImage :
    Ready .p quiet ∧ (quiet.set.links.get .p).configRight = true ∧ quiet.store.saving = none ∧
      (let s := { quiet with store := { quiet.store with saving := some quiet.set } }
       Ready .p s ∧ s.phase = .run ∧ s.store.saving = some quiet.set ∧ s.store.saving ≠ none ∧
         (none : Option (List Byte)) ≠ some (imageOf quiet.set)) := by unfold Ready; decide +kernel

/-- 10,799 mV below V_cut with a closed drain and the 50th count; 11,301 mV above V_cut + 500 with the 100th. -/
theorem witness_BankEntersAndLeavesCut :
    (let s := withAcct (fun a => { a with cutCounter := 49 })
      { quiet with clim := { quiet.clim with drain := .closed }, mu := { quiet.mu with bankV := 10799 } }
     s.phase = .run ∧ s.acct.loaded = true ∧ s.acct.bank ≠ .cut ∧ 49 ≤ s.acct.cutCounter ∧
       s.mu.bankV < (if s.acct.copy.chemistry = .lead then 10800 else 11600) ∧ CutSafe s ∧ s.clim.drain ≠ .opened) ∧
    (charging.phase = .run ∧ charging.acct.loaded = true ∧ charging.acct.bank = .cut ∧ 99 ≤ charging.acct.recoveryCounter ∧
      (if charging.acct.copy.chemistry = .lead then 10800 else 11600) + 500 < charging.mu.bankV ∧ 0 < charging.chg.iIn ∧
      charging.chg.shoreEn = true) :=
  ⟨⟨by decide +kernel, by decide +kernel, by decide +kernel, by decide +kernel, by decide +kernel,
    ⟨by decide +kernel, (fun h => by cases h), by unfold DrainSafe; decide +kernel⟩, by decide +kernel⟩, by decide +kernel⟩

theorem witness_AccountIsSynchronised :
    (let s := withAcct (fun a => { a with fullCounter := 1199 })
      { quiet with mu := { quiet.mu with bankV := quiet.acct.copy.vFull, shunt := 199 } }
     s.phase = .run ∧ s.acct.loaded = true ∧ s.acct.fullCounter = 1199 ∧ s.acct.copy.vFull ≤ s.mu.bankV ∧ 0 ≤ s.mu.shunt ∧
       s.mu.shunt < 2 * (s.acct.copy.cNom : Int)) ∧
    Ready .p quiet ∧ (quiet.set.links.get .p).configRight = true := by unfold Ready; decide +kernel

theorem witness_AltDelayFormsEnables :
    let s := { quiet with mu := { quiet.mu with engine := true }, chg := { quiet.chg with altTimer := 99 } }
    s.phase = .run ∧ s.mu.engine = true ∧ s.chg.altTimer + 1 = s.set.charge.altDelay * 10 := by decide +kernel

/-! ### Witnesses: loads -/

/-- Class 2 with a record to bring back, and class 1 with a dimming step. -/
def dueRecord : State :=
  let s := withRow 3 (fun x => { x with ordered := 1000, wanted := 1000, alloc := .shed }) quiet
  { s with alloc := { s.alloc with cls := { s.alloc.cls with
      c2 := { demand := 500, grant := 900, dim := 1000, cand := .record 3, counter := 29 } } } }

/-- Class 2 with the heater to bring back, in WAIT_BUDGET. -/
def dueHeater : State :=
  let s := withRow 1 (fun x => { x with ordered := 1000, wanted := 1000, alloc := .shed }) quiet
  { s with
    clim := { s.clim with heater := .waitBudget }
    alloc := { s.alloc with cls := { s.alloc.cls with
      c2 := { demand := 900, grant := 900, dim := 1000, cand := .record 1, counter := 29 } } } }

def dueDim : State :=
  let s := withRow 12 (fun x => { x with ordered := 1000, wanted := 1000, granted := 750 }) quiet
  { s with alloc := { s.alloc with cls := { s.alloc.cls with
      c1 := { demand := 200, grant := 200, dim := 750, cand := .dim 1000, counter := 29 } } } }

theorem witness_RestoreBringsCandidateBack :
    dueRecord.restoreDue .c2 = true ∧ dueHeater.restoreDue .c2 = true ∧ dueHeater.clim.heater = .waitBudget ∧
      dueDim.restoreDue .c1 = true ∧ (12 : RecNo) ∈ dueDim.members 1 := by decide +kernel

/-- 8001 is the first bucket above the limit of a record rated 400, 1601 the first short circuit; a light for the bucket. -/
theorem witness_TripOpensChannel :
    driven.phase = .run ∧ (driven.row 5).prot = .normal ∧ driven.driveOn 5 = true ∧ CutSafe driven ∧
      (∀ slot : Fin 13, driven.test.seq = .running slot .testing → slot.val ≠ (5 : RecNo).val) ∧
      min (4 * tget driven.inForce.rated 5) 3000 < 1601 ∧ ¬ min (4 * tget driven.inForce.rated 5) 3000 < 1600 ∧
      (let s := withRow 5 (fun x => { x with bucket := 7900 }) driven
       (s.cfg 5).rated * 20 < min 65535 ((s.row 5).bucket + (501 - (s.cfg 5).rated)) ∧ (s.cfg 5).rated * 5 / 4 < 501) ∧
      (driven.cfg 5).policy = .auto ∧ (driven.row 5).retryCount < 3 :=
  ⟨by decide +kernel, by decide +kernel, by decide +kernel,
    ⟨by decide +kernel, (fun h => by cases h), by unfold DrainSafe; decide +kernel⟩, by decide +kernel⟩

/-- RST_N low; a wait with one count left and one with two, of the last record; a quiet time at 599; a driven record
just above its limit and one that is not driven. -/
theorem witness_ProtectionCountsAndTimersEnd :
    ({ quiet with phase := .resetLow } : State).phase = .resetLow ∧
    (let s := fun (n : Nat) => withRow 19 (fun x => { x with prot := .retryWait, retryTimer := n }) quiet
     (s 1).phase = .run ∧ ((s 1).row 19).prot = .retryWait ∧ ((s 1).row 19).retryTimer ≤ 1 ∧ (19 : RecNo).val < 20 ∧
       ((s 2).row 19).prot = .retryWait ∧ 1 < ((s 2).row 19).retryTimer) ∧
    (let s := withRow 0 (fun x => { x with quiet := 599 }) quiet
     (s.row 0).prot = .normal ∧ 599 ≤ (s.row 0).quiet) ∧
    (withRow 5 (fun x => { x with prot := .tripped }) quiet).phase = .run ∧
    (let s := withRow 5 (fun x => { x with bucket := 7900 })
      { driven with mu := { driven.mu with currents := tset driven.mu.currents 5 501 } }
     s.driveOn 5 = true ∧ CutSafe s ∧ (s.cfg 5).rated * 20 < min 65535 ((s.row 5).bucket + (501 - (s.cfg 5).rated))) ∧
    quiet.driveOn 5 = false :=
  ⟨by decide, by decide +kernel, by decide +kernel, by decide +kernel,
    ⟨by decide +kernel, ⟨by decide +kernel, (fun h => by cases h), by unfold DrainSafe; decide +kernel⟩, by decide +kernel⟩,
    by decide +kernel⟩

/-- The first slot, the last slot of a channel, and slot 12, each that may end as it says; a drive that comes on in its
slot, and one in another. -/
theorem witness_SelftestRunsSlots :
    Ready .p quiet ∧ quiet.admits .p .service = true ∧ quiet.test.seq = .idle ∧ quiet.acct.bank ≠ .cut ∧
      (let s := fun (k : Fin 13) => { quiet with test := { quiet.test with seq := .running k .testing } }
       (s 0).test.seq = .running 0 .testing ∧ (s 11).test.seq = .running 11 .testing ∧ (s 12).test.seq = .running 12 .testing ∧
         (s 11).driveOn 11 = false ∧ ((s 11).modRec 11 fun x => { x with granted := 1000 }).driveOn 11 = true ∧
         ∀ slot : Fin 13, slot.val = (5 : RecNo).val → (s 11).test.seq ≠ .running slot .testing) ∧
      (let s := withRow 5 (fun x => { x with prot := .unprotected }) { quiet with test := { quiet.test with seq := .running 5 .testing } }
       s.test.seq = .running 5 .testing ∧ (s.row 5).prot = .unprotected) := by unfold Ready; decide +kernel

/-! ### Witnesses: climate and water -/

/-- A sweep that lights, one without a flame, one that locks and one that opens a closed drain, and the ends of the timers. -/
theorem witness_ClimateFollowsSweepsAndTimers :
    (let s := { quiet with clim := { quiet.clim with mode := .frost, heater := .off }, mu := { quiet.mu with tCabin := 9 } }
     s.phase = .run ∧ (heaterAfter s.clim (callAfter s.clim s.mu.tCabin) s.mu.htrFlt s.mu.flame).heater = .waitBudget) ∧
    (let s := { quiet with clim := { quiet.clim with heater := .off }, mu := { quiet.mu with htrFlt := true } }
     (heaterAfter s.clim (callAfter s.clim s.mu.tCabin) s.mu.htrFlt s.mu.flame).heater = .lockout ∧ s.clim.heater ≠ .lockout) ∧
    (let s := { quiet with clim := { quiet.clim with drain := .closed }, mu := { quiet.mu with tValve := 6 } }
     s.mu.tValve ≤ 6 ∧ s.clim.heater ≠ .run ∧ s.clim.drain = .closed) ∧
    (({ quiet with phase := .loading true } : State).phase = .loading true ∧ State.reset.phase = .loading false) ∧
    (let s := { quiet with clim := { quiet.clim with heater := .start, startTimer := 1 } }
     s.phase = .run ∧ s.clim.heater = .start ∧ s.clim.startTimer ≤ 1) ∧
    (let s := { quiet with clim := { quiet.clim with heater := .coolDown, coolTimer := 1, failCount := 3 } }
     s.phase = .run ∧ s.clim.heater = .coolDown ∧ s.clim.coolTimer ≤ 1 ∧ s.clim.failCount = 3) ∧
    (let s := { quiet with clim := { quiet.clim with heater := .coolDown, coolTimer := 1, failCount := 2, call := true } }
     s.clim.heater = .coolDown ∧ ¬(s.clim.failCount = 3 ∨ s.clim.faultMark = true) ∧ s.clim.call = true) := by decide +kernel

theorem witness_ClearsReleaseHeaterAndPump :
    let s := { quiet with
      clim := { quiet.clim with heater := .lockout }
      water := { quiet.water with pump := .dryLock, lockCause := some .trip } }
    Ready .t s ∧ s.admits .t .service = true ∧ Ready .p s ∧ (s.set.links.get .p).configRight = true ∧
      s.clim.heater = .lockout ∧ s.water.pump = .dryLock := by unfold Ready; decide +kernel

/-- 14 is warm and 13 is not. -/
theorem witness_CloseDrainClosesWarmValve :
    (let s := { quiet with clim := { quiet.clim with tValve := some 14 } }
     Ready .p s ∧ s.admits .p .service = true ∧ s.clim.drain = .opened ∧ s.acct.bank ≠ .cut ∧ (s.row 2).prot = .normal ∧
       s.clim.tValve = some 14 ∧ (14 : Int) ≤ 14 ∧ s.water.pump ≠ .dryLock) ∧
    (let s := { quiet with clim := { quiet.clim with tValve := some 13 } }
     Ready .p s ∧ s.clim.tValve = some 13 ∧ s.clim.heater ≠ .run ∧ ¬ (14 : Int) ≤ 13) ∧
    (let s := { quiet with clim := { quiet.clim with drain := .closed } }
     Ready .p s ∧ s.clim.drain = .closed) ∧
    Ready .p cutState ∧ cutState.clim.drain = .opened ∧ cutState.acct.bank = .cut := by unfold Ready; decide +kernel

/-- The last count at a sweep and as a row; a DRY_LOCK that is freed by a rise of 100, and one of a trip. -/
theorem witness_PumpIsEvaluatedAndLocksDry :
    (let s := withRow 0 (fun x => { x with wanted := 1000, ordered := 1000, granted := 1000 })
      { quiet with
        water := { quiet.water with
          pump := .running, dryTimer := 599, mode := .auto, drain := .closed, window := [500, 500, 500, 500, 500], level := 500
          refill := false, band := .mid, started := true }
        mu := { quiet.mu with sender := 500, press := false } }
     s.phase = .run ∧ s.water.pump = .running ∧ s.driveOn 0 = true ∧ s.set.water.dryLimit * 10 ≤ s.water.dryTimer + 1 ∧
       OtherSettingsOk s.set ∧ (s.row 0).ordered ≤ 1000 ∧ pumpRow s.waterSweep = .running ∧ s.waterSweep.water.pump = .dryLock) ∧
    (let s := { quiet with
      water := { quiet.water with pump := .dryLock, lockCause := some .dry, levelAtLock := 400 }, mu := { quiet.mu with sender := 500 } }
     s.water.levelAtLock + 100 ≤ s.waterSweep.water.level) ∧
    (let s := { quiet with water := { quiet.water with pump := .dryLock, lockCause := some .trip } }
     s.water.pump = .dryLock ∧ s.water.lockCause ≠ some .dry) :=
  ⟨⟨by decide +kernel, by decide +kernel, by decide +kernel, by decide +kernel, default_settings_ok.2, by decide +kernel,
    by decide +kernel, by decide +kernel⟩, by decide +kernel, by decide +kernel⟩

/-! ### Witnesses: motion -/

/-- The awning, and the step, in a sweep of each kind: latch engaging, latch releasing, a press, IGN turning on, and none. -/
theorem witness_MotionFollowsSweeps :
    let at_ := fun (x : MotionState) (now before : DeviceInputs) (ign : Bool) =>
      { awningIn x quiet with mu := { quiet.mu with awn := now, ign := ign }, prev := { quiet.prev with awn := before } }
    let latched := { idleInputs with latch := true }
    let pressed := { idleInputs with button := true }
    (let s := at_ .deploying latched idleInputs false
     s.phase = .run ∧ (s.inputs .awning).latch = true ∧ (s.inputsBefore .awning).latch = false ∧
       (s.inputs .awning).button = false ∧ s.mu.ign = false) ∧
    (let s := at_ .latched idleInputs latched false
     (s.inputs .awning).latch = false ∧ (s.inputsBefore .awning).latch = true ∧ (s.mot.get .awning).state = .latched) ∧
    (let s := at_ .stowed pressed idleInputs false
     (s.inputs .awning).button = true ∧ (s.inputsBefore .awning).button = false ∧ stateAfter s .awning = .stowed ∧
       clearToDeploy .awning s = true) ∧
    (let s := at_ .deployed idleInputs idleInputs true
     s.mu.ign = true ∧ s.prev.ign = false ∧ stateAfter s .awning = .deployed ∧ s.set.motion.stowOnIgn = false) ∧
    (let s := { at_ .stowed idleInputs idleInputs true with mot := { quiet.mot with step := { quiet.mot.step with state := .deployed } } }
     stateAfter s .step = .deployed ∧ (s.inputs .step).latch = false ∧ s.acct.bank ≠ .cut) ∧
    (let s := at_ .deploying { idleInputs with outSw := true } idleInputs false
     stateAfter s .awning = .deployed) ∧
    quiet.mot.step.state = .stowed := by decide +kernel

/-- The bank at motion_min itself; the step at 2 km/h; the awning in a state of each column of the table, one of them a
PAUSE whose target is already reached. -/
theorem witness_DeployIsTakenByState :
    let s := { quiet with mu := { quiet.mu with bankV := 11500 }, vehicle := { speed := some 2, age := 0 } }
    Ready .p s ∧ s.admits .p .exterior = true ∧ (s.inputs .awning).latch = false ∧ (s.inputs .step).latch = false ∧
      clearToDeploy .awning s = true ∧ clearToDeploy .step s = true ∧
      (∀ x ∈ ([.stowed, .deploying, .deployed, .stowing, .halted, .pause .inward, .pause (.outward 400), .fault .sensor, .latched] :
        List MotionState), Ready .p (awningIn x s) ∧ clearToDeploy .awning (awningIn x s) = true) ∧
      min 1000 (0 : BitVec 16).toNat ≤ s.mot.awning.runMs * 1000 / (s.inForce.tFull.get .awning * 1000) ∧
      (s.mot.step.state = .stowed ∧ (deployRow s.mot.step 1000 false).1 = .deploying ∧ s.reg.length < 32) ∧
      full.reg.length = 32 ∧ (full.reg.any fun e => e.origin == .step) = false := by
  unfold Ready; decide +kernel

theorem witness_StowAndHaltAreTakenByState :
    Ready .c quiet ∧ quiet.admits .c .exterior = true ∧ (quiet.inputs .step).latch = false ∧ quiet.acct.bank ≠ .cut := by
  unfold Ready; decide +kernel

/-- One witness for each refusal; 2 is the first bad device code, 4 the first bad command code, 11499 below motion_min,
3 km/h moving. -/
theorem witness_MotionRefusalsLeaveController :
    Ready .p quiet ∧ quiet.admits .p .exterior = true ∧ 1 < (2 : Byte).toNat ∧ quiet.mot.awning.state = .stowed ∧
      3 < (Frame.mk 0x04 1 0 4 0 0 0 0).b3.toNat ∧
      (let s := { quiet with mu := { quiet.mu with awn := { quiet.mu.awn with latch := true } } }
       Ready .p s ∧ (s.inputs .awning).latch = true) ∧
      ((awningIn (.fault .sensor) quiet).mot.awning.state = .fault .sensor ∧
        (awningIn .latched quiet).mot.awning.state = .latched) ∧
      (Ready .p cutState ∧ (cutState.inputs .awning).latch = false ∧ cutState.acct.bank = .cut) ∧
      ((awningIn .deployed cutState).mot.awning.state = .deployed ∧
        (awningIn (.pause .inward) cutState).mot.awning.state = .pause .inward ∧
        (awningIn (.fault .stall) cutState).mot.awning.state = .fault .stall) ∧
      (let s := { quiet with mu := { quiet.mu with bankV := 11499 } }
       Ready .p s ∧ s.acct.bank ≠ .cut ∧ s.mu.bankV < s.set.motion.motionMin) ∧
      (let s := { quiet with mu := { quiet.mu with ign := true } }
       Ready .p s ∧ s.set.motion.motionMin ≤ s.mu.bankV ∧ s.mu.ign = true ∧ s.vehicle.speed = none) ∧
      (let s := { quiet with wind := { quiet.wind with lock := true } }
       Ready .p s ∧ s.mu.ign = false ∧ s.wind.lock = true) ∧
      (let s := { quiet with vehicle := { speed := some 3, age := 0 } }
       Ready .p s ∧ s.vehicle.speed = some 3) := by unfold Ready; decide +kernel

/-- A rested PAUSE in either direction, with the checks passed and the bank CUT; 450 sweeps is the limit of the awning;
the third count of a stall with the bridge on. -/
theorem witness_PausesAndMovementsEnd :
    (let s := fun (p : Pending) => awningIn (.pause p) { quiet with mot := { quiet.mot with awning := { quiet.mot.awning with rest := 4 } } }
     (s .inward).phase = .run ∧ (s .inward).mot.awning.state = .pause .inward ∧ 4 ≤ (s .inward).mot.awning.rest ∧
       (s (.outward 600)).mot.awning.state = .pause (.outward 600) ∧ (s .inward).acct.bank ≠ .cut ∧
       clearToDeploy .awning (s (.outward 600)) = true ∧
       clearToDeploy .awning { s (.outward 600) with acct := cutState.acct } = false) ∧
    (let s := awningIn .deploying { quiet with mot := { quiet.mot with awning := { quiet.mot.awning with travel := 449 } } }
     s.phase = .run ∧ s.handling = none ∧ (s.mot.get .awning).state.dir ≠ none ∧
       s.set.motion.tFull.get .awning * 15 ≤ (s.mot.get .awning).travel + 1 ∧ s.log.capture = none) ∧
    (let s := withRow 20 (fun x => { x with wanted := 1000, ordered := 1000, granted := 1000 })
      (awningIn .stowing { quiet with mot := { quiet.mot with awning := { quiet.mot.awning with stall := 2 } } })
     (s.mot.get .awning).state.dir ≠ none ∧ s.driveOn Device.awning.motor = true ∧ 2 ≤ (s.mot.get .awning).stall) := by
  decide +kernel

/-- 17 pulses are at the limit (40 km/h), 18 above it. -/
theorem witness_WindLocksAndStowsAwning :
    quiet.phase = .run ∧ 17 * quiet.set.motion.windFactor / 10 ≤ quiet.set.motion.windLimit ∧
      quiet.set.motion.windLimit < 18 * quiet.set.motion.windFactor / 10 ∧ quiet.wind.count ≠ 2 ∧
      (let s := awningIn .deployed { quiet with wind := { quiet.wind with count := 2 } }
       s.phase = .run ∧ s.wind.count = 2 ∧ s.mot.awning.state ≠ .stowed ∧ s.mu.awn.latch = false ∧ s.acct.bank ≠ .cut) ∧
      (let s := awningIn .latched { quiet with wind := { quiet.wind with count := 2 } }
       s.mot.awning.state = .latched ∧ s.wind.count = 2) ∧
      (let s := { quiet with wind := { quiet.wind with lock := true, timer := 1 } }
       s.wind.lock = true ∧ s.wind.timer ≤ 1) := by decide +kernel

theorem witness_MotionIsRecomputed :
    (let s := awningIn (.fault .stall) quiet
     Ready .p s ∧ s.admits .p .exterior = true ∧ (s.mot.get .awning).state = .fault .stall) ∧
    (∀ c, (quiet.mot.get .step).state ≠ .fault c) ∧ Ready .p quiet ∧ (quiet.set.links.get .p).configRight = true :=
  ⟨⟨⟨rfl, rfl, rfl, rfl, rfl⟩, rfl, rfl⟩, fun _ h => (by cases h), ready_quiet .p, rfl⟩

/-! ### Witnesses: settings, clears -/

/-- A known and an unknown code, a full batch, a save, link standing index 3 refused, C_nom of 200 taken, and a taken batch
that leaves step light and slots, lowers a ceiling and takes link T out of ACT. -/
theorem witness_ConfigureTakesWholeBatch :
    ((newSettings
        [{ code := 0x42, index := 0, value := 1 }, { code := 0x40, index := 2, value := 1 }] quiet.set).map fun x =>
      ((x.1.links.get .c).ceiling < (quiet.set.links.get .c).ceiling : Bool) &&
        x.1.light.stepLight == quiet.set.light.stepLight && x.1.slots == quiet.set.slots &&
        (x.1.links.get .t).standing == .watch && (quiet.lk .t).live == .act) = some true ∧
    Ready .p quiet ∧ (quiet.set.links.get .p).configRight = true ∧ quiet.store.saving = none ∧ knownCode 0x01 = true ∧
      knownCode 0x07 = false ∧ (quiet.lk .p).batch.length < 8 ∧
      (let s := withLink .p (fun k => { k with batch := List.replicate 8 { code := 0x01, index := 0, value := 200 } }) quiet
       Ready .p s ∧ 8 ≤ (s.lk .p).batch.length) ∧
      (Ready .p stepLit ∧ stepLit.reg.any (fun e => e.origin == .step && e.target == 12 + stepLit.set.light.stepLight.val) ∧
        (newSettings [{ code := 0x3C, index := 0, value := 3 }] stepLit.set).map
          (fun x => x.1.light.stepLight != stepLit.set.light.stepLight) = some true) ∧
      ((newSettings [{ code := 0x40, index := 2, value := 0 }] quiet.set).map fun x =>
        (x.1.links.get .t).standing == .off && (quiet.set.links.get .t).standing == .act) = some true ∧
      (newSettings [{ code := 0x40, index := 2, value := 2 }]
        { quiet.set with links := quiet.set.links.set .t { quiet.set.links.get .t with standing := .off } }).map
          (fun x => (x.1.links.get .t).standing) = some .act ∧
      newSettings [{ code := 0x40, index := 3, value := 0 }] quiet.set = none ∧
      newSettings [{ code := 0x01, index := 0, value := 200 }] quiet.set =
        some ({ quiet.set with acct := { quiet.set.acct with cNom := 200 } }, false) ∧
      ({ quiet with store := { quiet.store with saving := some quiet.set } } : State).store.saving ≠ none := by
  unfold Ready; decide +kernel

/-- Settings in range, changes of codes that are made one after the other, and an index of each kind at its end. -/
theorem witness_CodesWriteTheirSettings :
    OtherSettingsOk Settings.default ∧ Settings.default.water.freshFull ≠ Settings.default.water.freshEmpty ∧
      (∀ x ∈ ([{ code := 0x01, index := 0, value := 200 }, { code := 0x40, index := 2, value := 1 }] : List Change),
        x.code ≠ 0x02 ∧ x.code ≠ 0x28 ∧ x.code ≠ 0x29 ∧ x.code ≠ 0x45 ∧ x.code ≠ 0x46) ∧
      (21 : Byte).toNat = (21 : RecNo).val ∧ (7 : Byte).toNat = (7 : Fin 8).val ∧ (2 : Byte).toNat = Link.t.no ∧
      21 < (22 : Byte).toNat ∧ 7 < (8 : Byte).toNat ∧ 2 < (3 : Byte).toNat :=
  ⟨default_settings_ok.2, by decide +kernel, by decide, by decide⟩

/-- The first and the last record that a CLEAR may name. -/
theorem witness_ClearsReturnRecordsToNormal :
    let s := withRow 19 (fun x => { x with prot := .retryWait }) (withRow 0 (fun x => { x with prot := .tripped, alloc := .shed }) quiet)
    Ready .p s ∧ (0 : Byte).toNat = (0 : RecNo).val ∧ (19 : Byte).toNat = (19 : RecNo).val ∧ s.admits .p (s.cfg 0).zone = true ∧
      s.admits .p (s.cfg 19).zone = true ∧ (s.row 0).prot = .tripped ∧ (s.row 19).prot = .retryWait ∧ (s.row 1).prot = .normal ∧
      (s.set.links.get .p).configRight = true ∧ (s.row 0).alloc = .shed ∧ s.clim.heldDrive = none ∧
      (∀ r, (s.row r).alloc = .shed ∨ (s.row r).prot = .tripped ∨ (s.row r).prot = .retryWait → (s.row r).granted = 0) := by
  unfold Ready; decide +kernel

/-- Group 5 is the last and 6 the first bad index. -/
theorem witness_ClearsOfTheLog :
    Ready .c quiet ∧
      ((5 : Byte).toNat, 18, 21) ∈ [(0, 0, 2), (1, 3, 5), (2, 6, 8), (3, 9, 13), (4, 14, 17), (5, 18, 21)] ∧
      5 < (6 : Byte).toNat := by unfold Ready; decide +kernel

end Sys2Proof.Tests
end

section
/-!
What a sweep has reported stays reported: no operation that runs at a sweep completion takes an event kind out of a
pending set (R161) or clears the status of an incident kind (R163).
-/

namespace Sys2Proof.ChargeSources

open Sys2Proof Sys2Proof.Machine

/-! ### Marks -/

/-- What stays until a master clears it: an event kind in the pending set of a link, the status of an incident kind. -/
inductive Mark where
  | event (l : Link) (e : Event)
  | incident (k : Incident)

/-- The mark stands, read from the links and the log alone. -/
def Mark.onIn (m : Mark) (links : PerLink LinkState) (log : Log) : Prop :=
  match m with
  | .event l e => (links.get l).pending.getLsbD e.no = true
  | .incident k => tget log.status k.no = true

/-- The mark stands in a state. -/
def Mark.on (m : Mark) (s : State) : Prop := m.onIn s.links s.log

variable {m : Mark} {s t : State}

@[simp] theorem Mark.onIn_fields : m.onIn s.links s.log ↔ m.on s := Iff.rfl

/-- An update of other blocks' state leaves the marks. -/
@[simp] theorem Mark.on_mk {a b c d e f g h i j k l n o p q r u v w x y z} :
    m.on ⟨a, b, c, d, e, f, g, h, i, j, k, l, n, o, p, q, r, u, v, w, x, y, z⟩ ↔ m.onIn u x := Iff.rfl

theorem Mark.on_congr (hl : t.links = s.links) (hg : t.log = s.log) (h : m.on s) : m.on t := by
  unfold Mark.on at *; rwa [hl, hg]

/-- A mark that every step of a fold leaves standing stands after the fold. -/
theorem Mark.on_foldl {β : Type} (f : State → β → State) (l : List β) (hf : ∀ b ∈ l, ∀ s, m.on s → m.on (f s b))
    (h : m.on s) : m.on (l.foldl f s) := foldl_inv m.on f l hf s h

/-! ### Events and incidents -/

theorem Event.bit_no (e : Event) : e.bit.getLsbD e.no = true := by cases e <;> rfl

/-- R161: outside RST_N low a raised kind stands in every pending set. -/
theorem State.raise_sets (e : Event) (k : Link) (h : s.phase ≠ .resetLow) : (Mark.event k e).on (s.raise e) := by
  simp [Mark.on, Mark.onIn, State.raise_pending, h, Event.bit_no]

@[simp] theorem State.raise_mark (e : Event) (h : m.on s) : m.on (s.raise e) := by
  cases m with
  | event l x =>
    simp only [Mark.on, Mark.onIn, State.raise_pending] at *
    split <;> simp [h]
  | incident k => simpa [Mark.on, Mark.onIn] using h

@[simp] theorem State.raiseOn_mark (l : Link) (e : Event) (h : m.on s) : m.on (s.raiseOn l e) := by
  cases m with
  | event k x =>
    simp only [Mark.on, Mark.onIn, State.raiseOn_pending] at *
    split <;> simp [h]
  | incident k => simpa [Mark.on, Mark.onIn] using h

@[simp] theorem State.raiseIf_mark (b : Bool) (e : Event) (h : m.on s) : m.on (s.raiseIf b e) := by
  cases b <;> simp [State.raiseIf, h]

/-- R163: a raised kind is set. -/
theorem State.raiseIncident_sets (k : Incident) (b : Block) (g : Option Nat) :
    (Mark.incident k).on (s.raiseIncident k b g) := by
  unfold State.raiseIncident State.raiseFrom
  split <;> exact (State.raiseWith_log ..).1

theorem State.raiseWith_mark (k : Incident) (b : Block) (o : CapOrigin) (g : Option Nat) (bs : Option (List Byte))
    (h : m.on s) : m.on (s.raiseWith k b o g bs) := by
  cases m with
  | event l x => exact State.raise_mark (m := .event l x) (s := { s with log := _ }) .incident h
  | incident j =>
    obtain ⟨hset, -, hother, -⟩ := State.raiseWith_log k b o g bs s
    by_cases hj : j.no = k.no
    · exact (congrArg _ hj).trans hset
    · exact (hother _ hj).1.trans h

@[simp] theorem State.raiseFrom_mark (k : Incident) (b : Block) (o : CapOrigin) (g : Option Nat) (h : m.on s) :
    m.on (s.raiseFrom k b o g) := by
  unfold State.raiseFrom; split <;> exact State.raiseWith_mark _ _ _ _ _ h

@[simp] theorem State.raiseIncident_mark (k : Incident) (b : Block) (g : Option Nat) (h : m.on s) :
    m.on (s.raiseIncident k b g) := State.raiseFrom_mark k b _ g h

/-! ### Load table -/

@[simp] theorem State.noteDrive_mark (r : RecNo) (was : Bool) (h : m.on s) : m.on (s.noteDrive r was) := by
  have aborted : m.on (s.abortTest r) := by
    unfold State.abortTest
    repeat' split
    all_goals simp [h]
  unfold State.noteDrive
  dsimp only
  repeat' split
  all_goals simp [h, aborted]

@[simp] theorem State.modRec_mark (r : RecNo) (f : LoadRec → LoadRec) (h : m.on s) : m.on (s.modRec r f) := by
  simp [State.modRec, h]

@[simp] theorem State.modMotion_mark (d : Device) (f : Motion → Motion) (h : m.on s) : m.on (s.modMotion d f) := by
  simp [State.modMotion, h]

@[simp] theorem State.withDrives_mark (f : State → State) (h : m.on (f s)) : m.on (s.withDrives f) :=
  Mark.on_foldl _ _ (fun _ _ _ ht => State.noteDrive_mark _ _ ht) h

@[simp] theorem State.setWanted_mark (r : RecNo) (v : Nat) (w : WantedBy) (h : m.on s) : m.on (s.setWanted r v w) :=
  Mark.on_congr (by simp) (by simp) h

@[simp] theorem State.evalConditionIf_mark (b : Bool) (c : Condition) (h : m.on s) : m.on (s.evalConditionIf b c) :=
  Mark.on_congr (by simp) (by simp) h

/-! ### Water -/

@[simp] theorem State.setPump_mark (p : PumpState) (h : m.on s) : m.on (s.setPump p) := by
  unfold State.setPump; split <;> simp [h]

@[simp] theorem State.pumpEval_mark (h : m.on s) : m.on s.pumpEval := by
  unfold State.pumpEval; split <;> simp [h]

@[simp] theorem State.pumpRelease_mark (h : m.on s) : m.on s.pumpRelease := by
  unfold State.pumpRelease; split <;> simp [h]

@[simp] theorem State.pumpTrip_mark (h : m.on s) : m.on s.pumpTrip := by
  unfold State.pumpTrip; split <;> simp [h]

@[simp] theorem State.handPumpMode_mark (p : PumpMode) (w : WantedBy) (h : m.on s) : m.on (s.handPumpMode p w) := by
  simp [State.handPumpMode, h]

@[simp] theorem State.handDrain_mark (d : DrainState) (h : m.on s) : m.on (s.handDrain d) := by
  unfold State.handDrain; split <;> simp [h]

@[simp] theorem State.pumpDry_mark (h : m.on s) : m.on s.pumpDry :=
  State.raiseIncident_mark _ _ _ (State.setPump_mark _ h)

theorem State.waterStep6_mark (h : m.on s) : m.on s.waterStep6 := by
  unfold State.waterStep6
  dsimp only
  repeat' split
  all_goals simp [h]

theorem State.waterSweep_mark (h : m.on s) : m.on s.waterSweep := by
  have h1 : m.on s.waterStep1 := h
  have h2 : m.on s.waterStep1.waterStep2 := State.raiseIf_mark _ _ h1
  have h3 : m.on s.waterStep1.waterStep2.waterStep3 := State.evalConditionIf_mark _ _ (State.raiseIf_mark _ _ h2)
  have h4 : m.on s.waterStep1.waterStep2.waterStep3.waterStep4 := by
    unfold State.waterStep4; split <;> simp [h3]
  unfold State.waterSweep
  split
  · exact State.waterStep6_mark (State.pumpEval_mark h4)
  · exact h

/-! ### Climate -/

@[simp] theorem State.setHeater_mark (f : Climate → Climate) (h : m.on s) : m.on (s.setHeater f) := by
  simp [State.setHeater, h]

@[simp] theorem State.heaterRest_mark (h : m.on s) : m.on s.heaterRest := State.setHeater_mark _ h

@[simp] theorem State.heaterCool_mark (b : Bool) (n : Nat) (h : m.on s) : m.on (s.heaterCool b n) :=
  State.setHeater_mark _ h

@[simp] theorem State.heaterOff_mark (h : m.on s) : m.on s.heaterOff := by
  unfold State.heaterOff State.heaterWait; dsimp only; split <;> simp [h]

@[simp] theorem State.heaterLockout_mark (h : m.on s) : m.on s.heaterLockout := by
  unfold State.heaterLockout; split <;> simp [h]

@[simp] theorem State.heaterCoolEnd_mark (h : m.on s) : m.on s.heaterCoolEnd := by
  unfold State.heaterCoolEnd; split <;> simp [h]

@[simp] theorem State.grantNotice_mark (h : m.on s) : m.on s.grantNotice := by
  unfold State.grantNotice State.heaterStart; split <;> simp [h]

@[simp] theorem State.shedNotice_mark (h : m.on s) : m.on s.shedNotice := by
  unfold State.shedNotice; split <;> simp [h]

@[simp] theorem State.handHeatMode_mark (x : HeatMode) (w : WantedBy) (h : m.on s) : m.on (s.handHeatMode x w) := by
  unfold State.handHeatMode State.heaterModeOff
  dsimp only
  repeat' split
  all_goals simp [h]

@[simp] theorem State.openDrain_mark (c : OpenCause) (h : m.on s) : m.on (s.openDrain c) := by
  unfold State.openDrain
  split
  · exact h
  · exact State.handDrain_mark _ (State.raise_mark _ (State.raiseIncident_mark _ _ _ (State.setWanted_mark _ _ _ h)))

theorem State.climateCut_mark (h : m.on s) : m.on s.climateCut := by
  unfold State.climateCut State.heaterCut
  repeat' split
  all_goals simp [h]

theorem State.climateStep2_mark (h : m.on s) : m.on s.climateStep2 := by
  unfold State.climateStep2
  repeat' split
  all_goals simp [h]

theorem State.climateStep3_mark (h : m.on s) : m.on s.climateStep3 := by
  unfold State.climateStep3 State.heaterRun
  repeat' split
  all_goals simp [h]

theorem State.climateStep4_mark (h : m.on s) : m.on s.climateStep4 := by
  unfold State.climateStep4
  repeat' split
  all_goals simp [h]

theorem State.climateStep5_mark (h : m.on s) : m.on s.climateStep5 := by
  unfold State.climateStep5 State.heaterWait
  split <;> simp [h]

theorem State.climateStep6_mark (h : m.on s) : m.on s.climateStep6 := by
  unfold State.climateStep6; dsimp only; split <;> simp [h]

theorem State.climateSweep_mark (h : m.on s) : m.on s.climateSweep := by
  have h1 : m.on s.climateStep1 := h
  unfold State.climateSweep
  split
  · exact State.climateStep6_mark (State.climateStep5_mark (State.climateStep4_mark (State.climateStep3_mark
      (State.climateStep2_mark h1))))
  · exact State.climateStep6_mark h
  · exact State.climateStep6_mark h
  · exact h

/-! ### Demand register -/

theorem State.handOn_mark (n : Nat) (v : Nat × WantedBy) (h : m.on s) : m.on (s.handOn n v) := by
  unfold State.handOn State.handSetpoint
  repeat' split
  all_goals simp [h]

theorem State.regApply_mark (es : List Entry) (os : List Origin) (h : m.on s) : m.on (s.regApply es os) := by
  refine Mark.on_foldl _ _ (fun l _ u hu => ?_) (Mark.on_foldl _ _ (fun n _ u hu => ?_) h)
  · split
    · exact State.raiseOn_mark _ _ hu
    · exact hu
  · split
    · exact hu
    · exact State.handOn_mark _ _ hu

@[simp] theorem State.placeInternal_mark (o : Origin) (n v secs : Nat) (h : m.on s) :
    m.on (s.placeInternal o n v secs) := by
  unfold State.placeInternal State.placeEntry
  split
  · split
    · exact State.regApply_mark _ _ h
    · exact h
  · exact h

@[simp] theorem State.withdrawInternal_mark (o : Origin) (n : Nat) (h : m.on s) : m.on (s.withdrawInternal o n) := by
  unfold State.withdrawInternal
  split
  · exact State.regApply_mark _ _ h
  · exact h

/-! ### Motion -/

theorem State.stepLight_mark (a b : MotionState) (h : m.on s) : m.on (s.stepLight a b) := by
  unfold State.stepLight
  dsimp only
  repeat' split
  all_goals simp [h]

@[simp] theorem State.setMotion_mark (d : Device) (b : MotionState) (f : Motion → Motion) (h : m.on s) :
    m.on (s.setMotion d b f) := by
  have wanted (v : Nat) (x : Bool) (g : Motion → Motion) :
      m.on (((s.modMotion d g).raiseIf x .motion).setWanted d.motor v .motion) :=
    State.setWanted_mark _ _ _ (State.raiseIf_mark _ _ (State.modMotion_mark _ _ h))
  unfold State.setMotion State.putMotion
  dsimp only
  split
  · exact State.stepLight_mark _ _ (wanted _ _ _)
  · exact wanted _ _ _

@[simp] theorem State.enterMove_mark (d : Device) (x : Dir) (h : m.on s) : m.on (s.enterMove d x) :=
  State.setMotion_mark _ _ _ h

@[simp] theorem State.beginMove_mark (d : Device) (x : Dir) (c : CmdSource) (h : m.on s) :
    m.on (s.beginMove d x c) := by
  unfold State.beginMove; dsimp only; split <;> simp [h]

@[simp] theorem State.redirect_mark (d : Device) (x : Dir) (c : CmdSource) (h : m.on s) : m.on (s.redirect d x c) := by
  simp [State.redirect, h]

@[simp] theorem State.enterFault_mark (d : Device) (c : FaultCause) (h : m.on s) : m.on (s.enterFault d c) :=
  State.setMotion_mark _ _ _ h

@[simp] theorem State.setTarget_mark (d : Device) (p : Nat) (h : m.on s) : m.on (s.setTarget d p) :=
  State.modMotion_mark _ _ h

@[simp] theorem State.checked_mark (c : Option Status) (go : State → State × Status) (h : m.on s)
    (hgo : m.on (go s).1) : m.on (s.checked c go).1 := by
  cases c with
  | none => exact hgo
  | some _ => exact h

theorem State.takeDeploy_mark (d : Device) (p : Nat) (b : Bool) (c : CmdSource) (h : m.on s) :
    m.on (s.takeDeploy d p b c).1 := by
  have ht : m.on (s.setTarget d p) := State.setTarget_mark d p h
  have outward (reached : Bool) : m.on
      (if reached then (s.setTarget d p, Status.ok)
       else ((s.setTarget d p).beginMove d .outward c, Status.accepted)).1 := by
    cases reached <;> simp [ht]
  have pausing (reached : Bool) : m.on
      (if reached then ((s.setTarget d p).setMotion d .halted id, Status.ok)
       else ((s.setTarget d p).redirect d .outward c, Status.accepted)).1 := by
    cases reached <;> simp [ht]
  unfold State.takeDeploy
  dsimp only
  split
  · exact State.checked_mark _ _ h (outward _)
  · exact State.checked_mark _ _ h (outward _)
  · exact ht
  · exact ht
  · exact State.checked_mark _ _ h (State.redirect_mark _ _ _ ht)
  · exact State.checked_mark _ _ h (pausing _)
  · exact h
  · exact h

theorem State.takeStow_mark (d : Device) (c : CmdSource) (h : m.on s) : m.on (s.takeStow d c).1 := by
  unfold State.takeStow; split <;> simp [h]

@[simp] theorem State.motionCommand_mark (d : Device) (x : MotionCmd) (c : CmdSource) (h : m.on s) :
    m.on (s.motionCommand d x c).1 := by
  have halt : m.on (s.takeHalt d).1 := by
    unfold State.takeHalt; split <;> simp [h]
  unfold State.motionCommand
  split
  · exact halt
  all_goals
    split
    · exact h
    · simp [State.takeDeploy_mark, State.takeStow_mark, h]

theorem State.motionCut_mark (d : Device) (h : m.on s) : m.on (s.motionCut d) := by
  unfold State.motionCut; split <;> simp [h]

@[simp] theorem State.driveAway_mark (h : m.on s) : m.on s.driveAway := by
  unfold State.driveAway
  dsimp only
  repeat' split
  all_goals simp [h]

@[simp] theorem State.awningIgn_mark (h : m.on s) : m.on s.awningIgn := by
  have reported : m.on ((s.raiseIncident .driveAway .motion (some 20)).raise .vehicle) := by simp [h]
  unfold State.awningIgn
  dsimp only
  repeat' split
  all_goals simp [h, reported]

theorem State.motionStep1_mark (d : Device) (h : m.on s) : m.on (s.motionStep1 d) := by
  have recompute : m.on (s.recompute d) := State.setMotion_mark d _ _ h
  unfold State.motionStep1
  dsimp only
  repeat' split
  all_goals simp [h, recompute]

theorem State.motionStep3_mark (d : Device) (h : m.on s) : m.on (s.motionStep3 d) := by
  unfold State.motionStep3
  dsimp only
  repeat' split
  all_goals simp [h]

theorem State.motionStep4_mark (d : Device) (h : m.on s) : m.on (s.motionStep4 d) := by
  unfold State.motionStep4 State.motionFaultEnds State.stallFault State.timeoutFault
  repeat' split
  all_goals simp [h]

theorem State.motionStep5_mark (d : Device) (h : m.on s) : m.on (s.motionStep5 d) := by
  unfold State.motionStep5 State.endPause
  repeat' split
  all_goals simp [h]

theorem State.motionStep6_mark (d : Device) (h : m.on s) : m.on (s.motionStep6 d) := by
  unfold State.motionStep6
  dsimp only
  repeat' split
  all_goals simp [h]

theorem State.motionSweep_mark (d : Device) (h : m.on s) : m.on (s.motionSweep d) := by
  unfold State.motionSweep
  split
  · exact State.motionStep6_mark d (State.motionStep5_mark d (State.motionStep4_mark d (State.motionStep3_mark d
      (State.modMotion_mark d _ (State.motionStep1_mark d h)))))
  · exact h

/-! ### Channel protection -/

theorem State.trip_mark (r : RecNo) (c : TripCause) (h : m.on s) : m.on (s.trip r c) := by
  have report (t : State) (ht : m.on t) : m.on (t.reportTrip r) := by
    unfold State.reportTrip State.warmerTrip
    repeat' split
    all_goals simp [ht]
  have policy (t : State) (ht : m.on t) : m.on (t.tripPolicy r) := by
    unfold State.tripPolicy
    repeat' split
    all_goals simp [ht]
  exact policy _ (report _ (State.raiseIncident_mark _ _ _ (State.raise_mark _ (State.modRec_mark _ _ h))))

theorem State.channelSweep_mark (r : RecNo) (h : m.on s) : m.on (s.channelSweep r) := by
  have counted (x : Nat) : m.on ((s.modRec r LoadRec.quietSweep).bucketSweep r x) := by
    have quiet : m.on (s.modRec r LoadRec.quietSweep) := State.modRec_mark _ _ h
    unfold State.bucketSweep
    dsimp only
    repeat' split
    all_goals simp [quiet, State.trip_mark]
  unfold State.channelSweep State.retryDone
  dsimp only
  repeat' split
  all_goals simp [h, counted]

theorem State.protectionSweep_mark (h : m.on s) : m.on s.protectionSweep := by
  unfold State.protectionSweep
  split
  · exact Mark.on_foldl _ _ (fun _ _ _ => State.channelSweep_mark _) h
  · exact h

/-! ### Energy account -/

theorem State.publishAccount_mark (a : Account) (h : m.on s) : m.on (s.publishAccount a) := by
  have cut (t : State) (ht : m.on t) : m.on t.publishCut :=
    State.motionCut_mark .step (State.motionCut_mark .awning (State.climateCut_mark ht))
  have entry (b : Bool) : m.on (if b then s.raiseIncident .bankCut .energyAccount none else s) := by
    cases b <;> simp [h]
  have put (b c : Bool) (t : State) (ht : m.on t) :
      m.on ((if b then { t with acct := a } else t.withDrives fun u => { u with acct := a }).raiseIf c .energy) := by
    cases b <;> simp [ht]
  have published (b : Bool) (t : State) (ht : m.on t) : m.on (if b then t.publishCut else t) := by
    cases b <;> simp [ht, cut]
  exact State.evalConditionIf_mark _ _ (published _ _ (put _ _ _ (entry _)))

@[simp] theorem State.handCompletion_mark (h : m.on s) : m.on s.handCompletion :=
  Mark.on_congr (by simp) (by simp) h

theorem State.accountSweep_mark (h : m.on s) : m.on s.accountSweep := by
  unfold State.accountSweep
  dsimp only
  repeat' split
  · exact State.handCompletion_mark (State.publishAccount_mark _ h)
  · exact State.publishAccount_mark _ h
  · exact h

/-! ### Charge control -/

theorem State.chargeStep2_mark (h : m.on s) : m.on s.chargeStep2 := by
  unfold State.chargeStep2
  dsimp only
  repeat' split
  all_goals simp [h]

theorem State.chargeStep4_mark (h : m.on s) : m.on s.chargeStep4 := State.raiseIf_mark _ _ h

theorem State.chargeStep5_mark (h : m.on s) : m.on s.chargeStep5 := State.setWanted_mark _ _ _ h

theorem State.chargeSweep_mark (h : m.on s) : m.on s.chargeSweep := by
  unfold State.chargeSweep
  split
  · exact State.chargeStep5_mark (State.chargeStep4_mark (State.chargeStep2_mark (s := s.chargeStep1) h))
  · exact h

/-! ### Allocator -/

theorem State.allocPass_mark (h : m.on s) : m.on s.allocPass := by
  have write (p : PassResult) : m.on (s.writePass p) := by
    have rows := Mark.on_foldl (s := { s with clim := { s.clim with heldDrive := none } })
      (fun t r => t.modRec r (s.passRow p r)) allRecs (fun _ _ _ => State.modRec_mark _ _) h
    unfold State.writePass
    simpa only [Mark.on_mk, Mark.onIn_fields] using rows
  have granted (b : Bool) (t : State) (ht : m.on t) : m.on (if b then t.grantNotice else t) := by
    cases b <;> simp [ht]
  have shed (b : Bool) (t : State) (ht : m.on t) : m.on (if b then t.shedNotice else t) := by
    cases b <;> simp [ht]
  unfold State.allocPass
  split
  · exact State.raiseIf_mark _ _ (shed _ _ (granted _ _ (write _)))
  · exact h

/-! ### Lighting -/

theorem State.lightingSweep_mark (h : m.on s) : m.on s.lightingSweep := by
  have fade : m.on s.lightStep1 := Mark.on_foldl _ _ (fun n _ u hu => by
    unfold State.fadeChannel; split <;> simp [hu]) h
  have courtesy (t : State) (ht : m.on t) : m.on t.courtesy := Mark.on_foldl _ _ (fun n _ u hu => by
    split <;> simp [hu]) ht
  unfold State.lightingSweep State.lightStep2
  split
  · dsimp only
    split
    · exact courtesy _ fade
    · exact fade
  · exact h

/-! ### Sweep -/

theorem State.runBlock_mark (b : SweepBlock) (h : m.on s) : m.on (s.runBlock b) := by
  cases b with
  | account => exact State.accountSweep_mark h
  | charge => exact State.chargeSweep_mark h
  | allocator => exact State.allocPass_mark h
  | protection => exact State.protectionSweep_mark h
  | climate => exact State.climateSweep_mark h
  | water => exact State.waterSweep_mark h
  | motionA => exact State.motionSweep_mark .awning h
  | motionS => exact State.motionSweep_mark .step h
  | lighting => exact State.lightingSweep_mark h

/-- What is reported before some blocks have run is reported after they have. -/
theorem State.runBlocks_mark (bs : List SweepBlock) (h : m.on s) : m.on (bs.foldl State.runBlock s) :=
  Mark.on_foldl _ _ (fun b _ _ => State.runBlock_mark b) h

end Sys2Proof.ChargeSources
end

section
/-!
Charge control (chapter 2): the steps of its sweep as equations, what the other blocks of a sweep leave of it, and the
statements of its chapter.
-/

namespace Sys2Proof.ChargeSources

open Sys2Proof Sys2Proof.Machine

variable {s t u : State} {m : Sweep}

/-! ### The steps of charge control -/

/-- R28: the three enables that a permission, the inputs, the settings and the alternator timer give. -/
theorem State.chargeStep4_chg (s : State) :
    s.chargeStep4.chg =
      { s.chg with
        shoreEn := s.chg.permission == .allowed && s.mu.shore
        solarEn := s.chg.permission == .allowed && s.set.charge.solarEnable
        altEn := s.chg.permission == .allowed && s.set.charge.altEnable && s.mu.engine &&
          decide (s.set.charge.altDelay * 10 ≤ s.chg.altTimer) } := by
  simp [State.chargeStep4, State.enables]

/-- R22: the permission is chosen afresh; nothing else of charge control changes. -/
theorem State.chargeStep2_chg (s : State) :
    s.chargeStep2.chg =
      { s.chg with
        permission := choosePermission s.acct.copy.chemistry s.chg.permission s.chg.absorb s.mu.tBank } := by
  unfold State.chargeStep2
  dsimp only
  split
  · next h => rw [h]
  · split <;> simp

theorem State.raiseIf_eq (b : Bool) (e : Event) (s : State) :
    s.raiseIf b e = { s with links := (s.raiseIf b e).links } := by cases b <;> rfl

theorem State.raiseIf_pending (b : Bool) (e : Event) (s : State) (h : s.phase ≠ .resetLow) (k : Link) :
    ((s.raiseIf b e).links.get k).pending = (s.links.get k).pending ||| if b then e.bit else 0 := by
  cases b <;> simp [State.raiseIf, h]

/-- R29: what step 4 compares for its event. -/
theorem State.enables_unchanged (s : State) :
    s.enables = (s.chg.shoreEn, s.chg.solarEn, s.chg.altEn) ↔
      s.chargeStep4.chg.shoreEn = s.chg.shoreEn ∧ s.chargeStep4.chg.solarEn = s.chg.solarEn ∧
        s.chargeStep4.chg.altEn = s.chg.altEn := by
  simp [State.chargeStep4_chg, State.enables]

/-- R29: exactly one ENERGY event where an enable changes, and none where none does. -/
theorem State.chargeStep4_pending (s : State) (h : s.phase ≠ .resetLow) (k : Link) :
    (s.chargeStep4.links.get k).pending =
      (s.links.get k).pending |||
        if s.chargeStep4.chg.shoreEn = s.chg.shoreEn ∧ s.chargeStep4.chg.solarEn = s.chg.solarEn ∧
          s.chargeStep4.chg.altEn = s.chg.altEn then 0 else Event.energy.bit := by
  simp only [← State.enables_unchanged]
  unfold State.chargeStep4
  rw [State.raiseIf_pending _ _ _ (by exact h)]
  by_cases same : s.enables = (s.chg.shoreEn, s.chg.solarEn, s.chg.altEn) <;> simp [same]

/-- R29: step 4 changes the enables and the links alone. -/
theorem State.chargeStep4_eq (s : State) :
    s.chargeStep4 = { s with chg := s.chargeStep4.chg, links := s.chargeStep4.links } :=
  (State.raiseIf_eq _ _ _).trans (by simp [State.chargeStep4])

/-! ### The choice of the permission -/

theorem hotCondition_iff (was : Permission) (x : Int) :
    hotCondition was x = true ↔ if was = .hotHold then 100 ≤ x else 110 < x := by
  unfold hotCondition; split <;> simp

theorem coldCondition_iff (chem : Chemistry) (was : Permission) (x : Int) :
    coldCondition chem was x = true ↔ chem = .lithium ∧ if was = .coldHold then x < 4 else x < 0 := by
  cases chem
  · simp [coldCondition]
  · simp only [coldCondition, true_and]; split <;> simp

/-- R22: HOT prevails over every other reason. -/
theorem choosePermission_hot {chem : Chemistry} {was : Permission} {absorb : Bool} {x : Int}
    (h : hotCondition was x = true) : choosePermission chem was absorb x = .hotHold := by
  simp [choosePermission, h]

theorem choosePermission_cold {chem : Chemistry} {was : Permission} {absorb : Bool} {x : Int}
    (h : ¬hotCondition was x = true) (h' : coldCondition chem was x = true) :
    choosePermission chem was absorb x = .coldHold := by
  simp [choosePermission, h, h']

/-- R25: with neither hot nor cold the absorb latch decides. -/
theorem choosePermission_mild {chem : Chemistry} {was : Permission} {absorb : Bool} {x : Int}
    (h : ¬hotCondition was x = true) (h' : ¬coldCondition chem was x = true) :
    choosePermission chem was absorb x = if absorb then .absorbHold else .allowed := by
  simp [choosePermission, h, h']

/-! ### One sweep of charge control -/

/-- R31, R32: the warmer's drop and request are formed; nothing else of charge control changes. -/
theorem State.chargeStep5_chg (s : State) :
    s.chargeStep5.chg =
      { s.chg with
        warmerDrop := s.dropStays
        warmerReq := s.chg.permission == .coldHold && (s.mu.shore || s.mu.engine) && !s.dropStays } := by
  simp [State.chargeStep5]

/-- R22 to R32: charge control after its own part of a sweep. -/
theorem State.chargeSweep_chg (h : s.phase = .run) :
    s.chargeSweep.chg =
      let absorb := s.chg.absorb && !decide (s.acct.socPm < s.set.charge.holdRelease)
      let p := choosePermission s.acct.copy.chemistry s.chg.permission absorb s.mu.tBank
      let timer := if s.mu.engine then min 600 (s.chg.altTimer + 1) else 0
      { permission := p
        absorb := absorb
        shoreEn := p == .allowed && s.mu.shore
        solarEn := p == .allowed && s.set.charge.solarEnable
        altEn := p == .allowed && s.set.charge.altEnable && s.mu.engine && decide (s.set.charge.altDelay * 10 ≤ timer)
        altTimer := timer
        warmerReq := p == .coldHold && (s.mu.shore || s.mu.engine) && !s.dropStays
        warmerDrop := s.dropStays
        iIn := s.chg.iIn } := by
  unfold State.chargeSweep
  rw [if_pos (by simp [h])]
  simp [State.chargeStep5_chg, State.chargeStep4_chg, State.chargeStep3, State.chargeStep2_chg, State.chargeStep1,
    State.dropStays]

/-- R26: a change of the permission enters an ENERGY event and raises the incident of the permission entered. -/
theorem State.chargeStep2_reports (h : s.phase = .run) (hp : s.chargeStep2.chg.permission ≠ s.chg.permission) :
    (∀ k, (Mark.event k .energy).on s.chargeStep2) ∧
      ∀ i, permissionIncident s.chargeStep2.chg.permission = some i → (Mark.incident i).on s.chargeStep2 := by
  rw [State.chargeStep2_chg] at hp ⊢
  unfold State.chargeStep2
  dsimp only at hp ⊢
  rw [if_neg hp]
  generalize choosePermission s.acct.copy.chemistry s.chg.permission s.chg.absorb s.mu.tBank = p
  have energy (k : Link) :
      (Mark.event k .energy).on (({ s with chg := { s.chg with permission := p } } : State).raise .energy) :=
    State.raise_sets .energy k (by simp [h])
  split
  · next i hi =>
    refine ⟨fun k => State.raiseIncident_mark _ _ _ (energy k), fun j hj => ?_⟩
    obtain rfl : i = j := Option.some.inj (hi.symm.trans hj)
    exact State.raiseIncident_sets _ _ _
  · next hi => exact ⟨energy, fun j hj => by simp [hi] at hj⟩

/-- R26, R29: what a sweep of charge control reports. -/
theorem State.chargeSweep_reports (h : s.phase = .run) :
    (s.chargeSweep.chg.permission ≠ s.chg.permission ∨ s.chargeSweep.chg.shoreEn ≠ s.chg.shoreEn ∨
      s.chargeSweep.chg.solarEn ≠ s.chg.solarEn ∨ s.chargeSweep.chg.altEn ≠ s.chg.altEn →
        ∀ k, (Mark.event k .energy).on s.chargeSweep) ∧
    (s.chargeSweep.chg.permission ≠ s.chg.permission → ∀ i,
      permissionIncident s.chargeSweep.chg.permission = some i → (Mark.incident i).on s.chargeSweep) := by
  let a := s.chargeStep1
  let b := a.chargeStep2.chargeStep3
  have hsweep : s.chargeSweep = b.chargeStep4.chargeStep5 := by
    unfold State.chargeSweep; rw [if_pos (by simp [h])]
  have hb : b.chg = { a.chg with permission := a.chargeStep2.chg.permission, altTimer := b.chg.altTimer } := by
    simp [b, State.chargeStep3, State.chargeStep2_chg]
  have hperm : s.chargeSweep.chg.permission = a.chargeStep2.chg.permission := by
    rw [hsweep, State.chargeStep5_chg, State.chargeStep4_chg, hb]
  have step2 := State.chargeStep2_reports (s := a) (by simpa [a] using h)
  have later {x : Mark} (hx : x.on a.chargeStep2) : x.on s.chargeSweep := by
    rw [hsweep]; exact State.chargeStep5_mark (State.chargeStep4_mark hx)
  refine ⟨fun hc k => ?_, fun hp i hi => ?_⟩
  · by_cases hp : s.chargeSweep.chg.permission = s.chg.permission
    · have changed : ¬(b.chargeStep4.chg.shoreEn = b.chg.shoreEn ∧ b.chargeStep4.chg.solarEn = b.chg.solarEn ∧
          b.chargeStep4.chg.altEn = b.chg.altEn) := by
        intro same
        have hs : b.chg.shoreEn = s.chg.shoreEn ∧ b.chg.solarEn = s.chg.solarEn ∧ b.chg.altEn = s.chg.altEn := by
          rw [hb]; exact ⟨rfl, rfl, rfl⟩
        obtain ⟨hshore, hsolar, halt⟩ := same
        obtain ⟨sshore, ssolar, salt⟩ := hs
        rw [hsweep, State.chargeStep5_chg] at hc hp
        obtain hc | hc | hc | hc := hc
        · exact hc hp
        · exact hc (hshore.trans sshore)
        · exact hc (hsolar.trans ssolar)
        · exact hc (halt.trans salt)
      rw [hsweep]
      refine State.chargeStep5_mark ?_
      have := State.chargeStep4_pending b (by simp [b, a, h]) k
      rw [if_neg changed] at this
      simp [Mark.on, Mark.onIn, this, Event.bit_no]
    · exact later ((step2 (hperm ▸ hp)).1 k)
  · exact later ((step2 (hperm ▸ hp)).2 i (hperm ▸ hi))

/-- R31, R32: the warmer's record takes the request; no other record changes. -/
theorem State.chargeSweep_rows (h : s.phase = .run) :
    (s.chargeSweep.row 10).wanted = (if s.chargeSweep.chg.warmerReq = true then 1000 else 0) ∧
      (s.chargeSweep.row 10).wantedBy = .function ∧ ∀ k, k ≠ 10 → s.chargeSweep.row k = s.row k := by
  have hsweep : s.chargeSweep = s.chargeStep1.chargeStep2.chargeStep3.chargeStep4.chargeStep5 := by
    unfold State.chargeSweep; rw [if_pos (by simp [h])]
  rw [hsweep]
  generalize hv : s.chargeStep1.chargeStep2.chargeStep3.chargeStep4 = v
  have htab : v.tab = s.tab := by simp [← hv]
  have stored (b : Bool) : storeLevel 10 (if b then 1000 else 0) = if b then 1000 else 0 := by cases b <;> rfl
  unfold State.chargeStep5
  dsimp only
  refine ⟨?_, (State.setWanted_row_self ..).2.1, fun k hk => ?_⟩
  · exact (State.setWanted_row_self ..).1.trans (by rw [stored]; simp)
  · exact (State.setWanted_row_ne hk ..).trans (congrArg (fun x => tget x k) htab)

/-- R22: what a sweep of charge control leaves. -/
theorem State.chargeSweep_eq (s : State) :
    s.chargeSweep = { s with
      chg := s.chargeSweep.chg, tab := s.chargeSweep.tab, links := s.chargeSweep.links, log := s.chargeSweep.log } := by
  have frame := s.chargeSweep_frame
  generalize s.chargeSweep = t at *
  cases s; cases t; simp_all

/-! ### What the other blocks leave of charge control -/

/-- Charge control without its absorb latch, which the account sets (R25), and its warmer, which a trip stops (R32). -/
def sources (c : Charge) : Charge := { c with absorb := false, warmerDrop := false, warmerReq := false }

/-- From `s` to `t` charge control has not acted: its sources are as they were, the chemistry is, and the absorb latch
is unless a full LITHIUM bank has set it. -/
structure ChargeHeld (s t : State) : Prop where
  sources : sources t.chg = sources s.chg
  absorb : t.chg.absorb = s.chg.absorb ∨ s.acct.copy.chemistry = .lithium ∧ t.chg.absorb = true
  copy : t.acct.copy = s.acct.copy

theorem ChargeHeld.of_eq (hc : t.chg = s.chg) (ha : t.acct.copy = s.acct.copy) : ChargeHeld s t :=
  ⟨by rw [hc], .inl (by rw [hc]), ha⟩

/-- What charge control has formed, field by field. -/
theorem ChargeHeld.fields (h : ChargeHeld s t) :
    t.chg.permission = s.chg.permission ∧ t.chg.shoreEn = s.chg.shoreEn ∧ t.chg.solarEn = s.chg.solarEn ∧
      t.chg.altEn = s.chg.altEn ∧ t.chg.altTimer = s.chg.altTimer ∧ t.chg.iIn = s.chg.iIn :=
  ⟨congrArg (·.permission) h.sources, congrArg (·.shoreEn) h.sources, congrArg (·.solarEn) h.sources,
    congrArg (·.altEn) h.sources, congrArg (·.altTimer) h.sources, congrArg (·.iIn) h.sources⟩

theorem ChargeHeld.trans (h : ChargeHeld s t) (h' : ChargeHeld t u) : ChargeHeld s u where
  sources := h'.sources.trans h.sources
  copy := h'.copy.trans h.copy
  absorb := by
    obtain ha | ⟨hl, ha⟩ := h'.absorb
    · rw [ha]; exact h.absorb
    · exact .inr ⟨h.copy ▸ hl, ha⟩

/-- R4: no step of the account's sweep changes its copy of the settings. -/
theorem Account.sweep_copy (i : Int) (v iIn : Nat) (x : Int) (below : Bool) (a : Account) :
    (a.sweep i v iIn x below).copy = a.copy := by
  have step1 (b : Account) : (b.step1 i).copy = b.copy := rfl
  have step2 (b : Account) : (b.step2 i v).copy = b.copy := by unfold Account.step2; split <;> rfl
  have step3 (b : Account) : b.step3.copy = b.copy := by unfold Account.step3; split <;> rfl
  have step6 (b : Account) : (b.step6 v iIn below).copy = b.copy := by
    unfold Account.step6
    repeat' split
    all_goals rfl
  have step4 (b : Account) : (b.step4 x).copy = b.copy := by
    obtain ⟨c, p, h⟩ : ∃ c p, b.step4 x = { b with cEff := c, socPm := p } := ⟨_, _, rfl⟩
    rw [h]
  have step5 (b : Account) : b.step5.copy = b.copy := rfl
  have step7 (b : Account) : (b.step7 x).copy = b.copy := rfl
  unfold Account.sweep
  rw [step7, step6, step5, step4, step3, step2, step1]

/-- R25: the account's sweep reaches charge control by the report of a full bank alone. -/
theorem State.accountSweep_held (s : State) : ChargeHeld s s.accountSweep := by
  unfold State.accountSweep
  dsimp only
  split
  · have published (a : Account) (ha : a.copy = s.acct.copy) : ChargeHeld s (s.publishAccount a) :=
      .of_eq (by simp) (by simp [ha])
    have completed (v : State) : ChargeHeld v v.handCompletion := by
      unfold State.handCompletion
      split
      · next h => exact ⟨rfl, .inr ⟨by simp_all, rfl⟩, rfl⟩
      · exact .of_eq rfl rfl
    split
    · exact (published _ (Account.sweep_copy ..)).trans (completed _)
    · exact published _ (Account.sweep_copy ..)
  · exact .of_eq rfl rfl

/-- R32: channel protection reaches charge control by the trip report of record 10 alone. -/
theorem State.protectionSweep_held (s : State) : ChargeHeld s s.protectionSweep := by
  have report (r : RecNo) (v : State) : ChargeHeld v (v.reportTrip r) := by
    refine ⟨?_, .inl ?_, by simp⟩
    all_goals
      unfold State.reportTrip
      repeat' split
      all_goals simp [State.warmerTrip, ChargeSources.sources]
  have policy (r : RecNo) (v : State) : ChargeHeld v (v.tripPolicy r) := .of_eq (by simp) (by simp)
  have trip (r : RecNo) (c : TripCause) (v : State) : ChargeHeld v (v.trip r c) := by
    have raised : ChargeHeld v (((v.modRec r fun x => { x with prot := .tripped, granted := 0 }).raise
        .trip).raiseIncident c.incident .channelProtection (some r.val)) := .of_eq (by simp) (by simp)
    exact (raised.trans (report r _)).trans (policy r _)
  have channel (r : RecNo) (v : State) : ChargeHeld v (v.channelSweep r) := by
    unfold State.channelSweep State.bucketSweep
    dsimp only
    split
    · split <;> exact .of_eq (by simp) (by simp)
    · split
      · split
        · exact (ChargeHeld.of_eq (by simp) (by simp)).trans (trip _ _ _)
        · exact .of_eq (by simp) (by simp)
      · exact .of_eq (by simp) (by simp)
  unfold State.protectionSweep
  split
  · exact foldl_inv (ChargeHeld s) _ _ (fun r _ _ hv => hv.trans (channel r _)) _ (.of_eq rfl rfl)
  · exact .of_eq rfl rfl

theorem State.runBlock_held {b : SweepBlock} (hb : b ≠ .charge) (s : State) : ChargeHeld s (s.runBlock b) := by
  cases b with
  | charge => exact absurd rfl hb
  | account => exact State.accountSweep_held s
  | protection => exact State.protectionSweep_held s
  | _ => exact .of_eq (by simp [State.runBlock]) (by simp [State.runBlock])

theorem State.runBlocks_held {bs : List SweepBlock} (hbs : .charge ∉ bs) (s : State) :
    ChargeHeld s (bs.foldl State.runBlock s) :=
  foldl_inv (ChargeHeld s) _ _
    (fun _ hb v hv => hv.trans (State.runBlock_held (fun e => hbs (e ▸ hb)) v)) _ (.of_eq rfl rfl)

theorem State.runBlocks_acct {bs : List SweepBlock} (hbs : .account ∉ bs) (s : State) :
    (bs.foldl State.runBlock s).acct = s.acct :=
  foldl_keeps_mem State.acct _ _ (fun _ hb v => State.runBlock_acct (fun e => hbs (e ▸ hb)) v) s

/-! ### Where charge control acts in a sweep -/

/-- The measurements of a well-formed sweep are in range as they are. -/
theorem Sweep.inRange_of_wellFormed (h : m.wellFormed = true) : m.inRange = m := by
  simp only [Sweep.wellFormed, within, Bool.and_eq_true, decide_eq_true_eq, List.all_eq_true] at h
  obtain ⟨⟨⟨⟨⟨⟨⟨⟨⟨⟨hshunt, hbank⟩, hmin⟩, htb⟩, hci⟩, htc⟩, htv⟩, hto⟩, hsv⟩, hse⟩, hcur⟩ := h
  have hcurrents : m.currents.map (min 32767) = m.currents := by
    ext i hi
    rw [Vector.getElem_map]
    exact Nat.min_eq_right (hcur _ (Vector.mem_toList_iff.mpr (Vector.getElem_mem hi)))
  cases m
  simp only [Sweep.inRange, clampInt] at *
  congr 1 <;> omega

/-- R30: what the publication of a sweep gives charge control. -/
theorem State.publish_charge (h : m.wellFormed = true) (s : State) :
    (s.publish m).mu = m ∧ (s.publish m).chg = { s.chg with iIn := s.chg.inputCurrent m.chargeIn } := by
  simp [State.publish, State.measure, Sweep.inRange_of_wellFormed h]

/-- Log 3: charge control acts once, and the account does not act both before and after it. -/
theorem normalOrder_split (order : List SweepBlock) :
    ∃ before after, normalOrder order = before ++ .charge :: after ∧ .charge ∉ before ∧ .charge ∉ after ∧
      (.account ∉ before ∨ .account ∉ after) := by
  obtain ⟨before, after, he⟩ := List.append_of_mem (mem_normalOrder order .charge)
  have hn := nodup_normalOrder order
  rw [he, List.nodup_append] at hn
  obtain ⟨-, hafter, hdisj⟩ := hn
  refine ⟨before, after, he, fun hb => hdisj _ hb _ (by simp) rfl, (List.nodup_cons.mp hafter).1, ?_⟩
  by_cases hacct : .account ∈ before
  · exact .inr fun hlate => hdisj _ hacct _ (List.mem_cons_of_mem _ hlate) rfl
  · exact .inl hacct

/-- R4, R22: a sweep completion in RUN, seen from charge control: it acts once, on a state `u` in which it is as the
sweep found it, and what it leaves and has reported stays. The account has gauged the bank before it or gauges it after. -/
theorem State.sweep_at_charge (hm : m.wellFormed = true) (order : List SweepBlock) (hrun : s.phase = .run) :
    ∃ u : State, u.phase = .run ∧ u.mu = m ∧ u.set = s.set ∧ ChargeHeld (s.publish m) u ∧
      ChargeHeld u.chargeSweep (s.sweep m order) ∧ (∀ x : Mark, x.on u.chargeSweep → x.on (s.sweep m order)) ∧
      (u.acct = s.acct ∨ u.acct = (s.sweep m order).acct) := by
  obtain ⟨before, after, he, hb, ha, hacct⟩ := normalOrder_split order
  let u := before.foldl State.runBlock (s.publish m)
  let v := after.foldl State.runBlock u.chargeSweep
  have hsweep : s.sweep m order = { v with test := v.test.sweepEnd } := by
    unfold State.sweep
    rw [he, List.foldl_append, List.foldl_cons]
    rfl
  rw [hsweep]
  refine ⟨u, by simp [u, hrun], by simp [u, State.publish_charge hm], by simp [u], State.runBlocks_held hb _, ?_,
    fun x hx => State.runBlocks_mark after hx, hacct.imp (fun h => ?_) (fun h => ?_)⟩
  · exact (State.runBlocks_held ha _).trans (.of_eq rfl rfl)
  · simpa using State.runBlocks_acct h (s.publish m)
  · simpa using (State.runBlocks_acct h u.chargeSweep).symm

/-- R22 to R28, R30: permission, alternator timer, enables and input current after a sweep completion in RUN. The
permission is chosen with the absorb latch as charge control finds it (R25). -/
theorem State.sweep_forms_sources (hm : m.wellFormed = true) (order : List SweepBlock) (hrun : s.phase = .run)
    (ht : s.sweep m order = t) :
    (∃ absorb, t.chg.permission = choosePermission s.acct.copy.chemistry s.chg.permission absorb m.tBank ∧
      (s.acct.copy.chemistry = .lead → s.chg.absorb = false → absorb = false) ∧
      (s.chg.absorb = true → s.set.charge.holdRelease ≤ min s.acct.socPm t.acct.socPm → absorb = true)) ∧
    t.chg.altTimer = (if m.engine then min 600 (s.chg.altTimer + 1) else 0) ∧
    t.chg.shoreEn = (t.chg.permission == .allowed && m.shore) ∧
    t.chg.solarEn = (t.chg.permission == .allowed && s.set.charge.solarEnable) ∧
    t.chg.altEn = (t.chg.permission == .allowed && s.set.charge.altEnable && m.engine &&
      decide (s.set.charge.altDelay * 10 ≤ t.chg.altTimer)) ∧
    t.chg.iIn = s.chg.inputCurrent m.chargeIn := by
  obtain ⟨u, hu, hmu, hset, hbefore, hafter, -, hacct⟩ := State.sweep_at_charge hm order hrun
  rw [ht] at hafter hacct
  obtain ⟨hperm, -, -, -, htimer, hiIn⟩ := hbefore.fields
  obtain ⟨tperm, tshore, tsolar, talt, ttimer, tiIn⟩ := hafter.fields
  have hcopy : u.acct.copy = s.acct.copy := by simpa using hbefore.copy
  have hlatch := hbefore.absorb
  rw [(State.publish_charge hm s).2] at hperm htimer hiIn hlatch
  rw [tperm, tshore, tsolar, talt, ttimer, tiIn, State.chargeSweep_chg hu]
  dsimp only
  rw [hperm, htimer, hiIn, hmu, hset, hcopy]
  refine ⟨⟨_, rfl, fun hlead hoff => ?_, fun hon hsoc => ?_⟩, rfl, rfl, rfl, rfl, rfl⟩
  · have off : u.chg.absorb = false := by simpa [hlead, hoff] using hlatch
    rw [off]; rfl
  · have on : u.chg.absorb = true := hlatch.elim (·.trans hon) And.right
    have above : s.set.charge.holdRelease ≤ u.acct.socPm := by
      obtain h | h := hacct <;> rw [h] <;> omega
    simp [on, above]

/-- R26, R29: what charge control reports at a sweep completion in RUN. -/
theorem State.sweep_reports_sources (hm : m.wellFormed = true) (order : List SweepBlock) (hrun : s.phase = .run)
    (ht : s.sweep m order = t) :
    (t.chg.permission ≠ s.chg.permission ∨ t.chg.shoreEn ≠ s.chg.shoreEn ∨ t.chg.solarEn ≠ s.chg.solarEn ∨
      t.chg.altEn ≠ s.chg.altEn → ∀ k, (Mark.event k .energy).on t) ∧
    (t.chg.permission ≠ s.chg.permission → ∀ i, permissionIncident t.chg.permission = some i →
      (Mark.incident i).on t) := by
  obtain ⟨u, hu, -, -, hbefore, hafter, hmarks, -⟩ := State.sweep_at_charge hm order hrun
  rw [ht] at hafter hmarks
  obtain ⟨hperm, hshore, hsolar, halt, -, -⟩ := hbefore.fields
  obtain ⟨tperm, tshore, tsolar, talt, -, -⟩ := hafter.fields
  rw [(State.publish_charge hm s).2] at hperm hshore hsolar halt
  obtain ⟨energy, incident⟩ := State.chargeSweep_reports hu
  rw [hperm, hshore, hsolar, halt] at energy
  rw [hperm] at incident
  rw [tperm, tshore, tsolar, talt]
  exact ⟨fun hc k => hmarks _ (energy hc k), fun hc i hi => hmarks _ (incident hc i hi)⟩

/-! ### The statements -/

/-- Settles O30: charge control acts once in the sweep, and the other blocks leave what it forms. -/
theorem sweepChoosesPermission : Obligations.SweepChoosesPermission := by
  refine ⟨fun m order s hm hrun => ?_, fun s hrun => ?_⟩
  · intro was hot cold
    obtain ⟨⟨absorb, hperm, hlead, hheld⟩, htimer, hshore, hsolar, halt, hiIn⟩ :=
      State.sweep_forms_sources hm order hrun rfl
    obtain ⟨energy, incident⟩ := State.sweep_reports_sources hm order hrun rfl
    have hot_iff : hotCondition was m.tBank = true ↔ hot := hotCondition_iff _ _
    have cold_iff : coldCondition s.acct.copy.chemistry was m.tBank = true ↔ cold := coldCondition_iff _ _ _
    have isHot (h : hot) : (s.sweep m order).chg.permission = .hotHold := by
      rw [hperm]; exact choosePermission_hot (hot_iff.mpr h)
    have isCold (h : ¬hot) (h' : cold) : (s.sweep m order).chg.permission = .coldHold := by
      rw [hperm]; exact choosePermission_cold (mt hot_iff.mp h) (cold_iff.mpr h')
    have isMild (h : ¬hot) (h' : ¬cold) :
        (s.sweep m order).chg.permission = if absorb then .absorbHold else .allowed := by
      rw [hperm]; exact choosePermission_mild (mt hot_iff.mp h) (mt cold_iff.mp h')
    refine ⟨_, rfl, isHot, isCold, fun h h' => ?_, fun h h' hl ha => ?_, fun h h' ha hsoc => ?_, fun h hw => ?_,
      fun h h' hw => ?_, htimer, ?_, ?_, ?_, ?_, energy⟩
    · rw [isMild h h']; cases absorb <;> simp
    · rw [isMild h h', hlead hl ha]; rfl
    · rw [isMild h h', hheld ha hsoc]; rfl
    · exact incident (by rw [isHot h]; exact hw.symm) .bankHot (by rw [isHot h]; rfl)
    · exact incident (by rw [isCold h h']; exact hw.symm) .coldBlock (by rw [isCold h h']; rfl)
    · rw [hshore]; simp
    · rw [hsolar]; simp
    · rw [halt]; simp [and_assoc]
    · rw [hiIn]; simp [Charge.inputCurrent, Charge.anyOn, or_assoc]
  · obtain ⟨hwanted, hby, hothers⟩ := State.chargeSweep_rows hrun
    have hchg := State.chargeSweep_chg hrun
    refine ⟨?_, ?_, ?_, hwanted, hby, hothers, ?_, fun k => LinkState.same_but (State.chargeSweep_lk s k),
      State.chargeSweep_eq s⟩
    · rw [hchg]; simp only [← Nat.not_lt, decide_not]
    · rw [hchg]; simp [State.dropStays]
    · rw [hchg]; simp [and_assoc]
    · rw [hchg]

/-- Settles O41 (R27, R28): the last count of the delay meets the term of the alternator's enable. -/
theorem altDelayFormsEnables : Obligations.AltDelayFormsEnables := by
  intro s hrun hengine hlast
  let u : State := { s with chg := { s.chg with altTimer := s.chg.altTimer + 1 } }
  have hexec : exec .altDelayExpiry s = .next u.chargeStep4 := by
    change execAltDelayExpiry s = _
    unfold execAltDelayExpiry
    rw [if_pos ⟨by simp [hrun], hengine, hlast⟩]
  have hchg : u.chargeStep4.chg = { u.chg with
      shoreEn := s.chg.permission == .allowed && s.mu.shore
      solarEn := s.chg.permission == .allowed && s.set.charge.solarEnable
      altEn := s.chg.permission == .allowed && s.set.charge.altEnable } := by
    simp [State.chargeStep4_chg, u, hengine, hlast]
  refine ⟨_, hexec, hchg, fun k => ?_, fun k => LinkState.same_but (State.chargeStep4_lk u k), ?_⟩
  · exact State.chargeStep4_pending u (by simp [u, hrun]) k
  · exact State.chargeStep4_eq u

end Sys2Proof.ChargeSources
end
